-- ==== Sys2Proof/Word.lean ====
section
/-! DEFINITION. The words the LC16's manual counts in: bytes, 16-bit numbers, station and lock numbers, sets of
stations. Their byte order and set operations are in Machine/Sets.lean. -/

namespace Sys2Proof

/-- A byte of the host port or of a frame's payload. -/
abbrev Byte := BitVec 8

/-- A 16-bit number: an epoch, a grant count, a fencing token, a wait limit. -/
abbrev Word16 := BitVec 16

/-- A station's number, 0 to 15 (Conventions, "Identifiers"). -/
abbrev StationId := Fin 16

/-- A lock's number, 0 to 63 (R41). -/
abbrev LockId := Fin 64

/-- A set of stations, bit n set for station n, as Tables 12-6 and 12-14 lay it out. -/
abbrev StationSet := BitVec 16

end Sys2Proof
end

