-- ==== Sys2Proof/Syntax.lean ====
section
/-! DEFINITION. The commands of the LC16: one constructor of `Instr` for each row of spec/opcode_table.json, with the
operands that say what the row leaves to the outside: straps, host bytes, what the station samples on BUSD, which
peer's or lock's timer. -/

namespace Sys2Proof

/-- The levels of the strap pins at a release of nRESET: the id they spell, and whether RATE1 and RATE0 are high
(R1, R83, Table 10-5). -/
structure Straps where
  id    : StationId
  rate1 : Bool
  rate0 : Bool
  deriving DecidableEq, Repr

/-- The three verdict slots as sampled at mid-cell: `true` is dominant (R14, R22). -/
structure Slots where
  reject  : Bool
  agree   : Bool
  dissent : Bool
  deriving DecidableEq, Repr

/-- The bits of a frame's body as a station assembles them: kind code, sender id, LENGTH, payload, CRC (R7, R14). -/
structure RawFrame where
  code    : BitVec 6
  sender  : StationId
  length  : Byte
  payload : List Byte
  crc     : Word16
  deriving DecidableEq, Repr

/-- What a receiver has sampled when it finds one of the two faults of R16. -/
inductive FlagCause where
  /-- The six kind cells hold a code that Table 1-2 does not list. -/
  | unknownKind (code : BitVec 6)
  /-- The LENGTH cells hold a length the kind cannot have. -/
  | lengthFault (code : BitVec 6) (sender : StationId) (length : Byte)
  deriving DecidableEq, Repr

/-- What a station meets on the line beside the cells it expects (R3, R6, R17, R18). -/
inductive LineFault where
  /-- The line is recessive again, and no edge is due: a stretch of dominant level has ended (R6; log 6). -/
  | recessive
  /-- The line stays recessive through the whole window of a cell's edge. -/
  | missingEdge
  /-- A falling edge outside every window. In an abandoned body it is the further falling edge of R17. -/
  | framingFault
  /-- The END cell is sampled dominant. -/
  | endDominant
  /-- A falling edge after the END cell and before the line becomes idle. -/
  | closingEdge
  deriving DecidableEq, Repr

/-- Where a sending station finds a bit fault (R12). -/
inductive FaultCell where
  /-- In SOF or the arbitration field: the release check, or a sent 0 sampled as 1. -/
  | arbitration
  /-- From the first LENGTH cell to the last CRC cell. -/
  | body
  deriving DecidableEq, Repr

/-- The rows of spec/opcode_table.json. A host command carries its parameter bytes and its check byte (Table 12-8). -/
inductive Instr where
  | nresetAssert
  | nresetRelease (straps : Straps)
  | powerUp (straps : Straps) (nresetLow : Bool)
  | ncsFall
  | ncsRise
  | badCommand (code : Byte)
  | status (check : Byte)
  | configure (p k jmul check : Byte)
  | enter (check : Byte)
  | leave (check : Byte)
  | detach (check : Byte)
  | acquireNoWaitLimit (lock mode check : Byte)
  | acquireWithWaitLimit (lock mode : Byte) (limit : Word16) (check : Byte)
  | release (lock check : Byte)
  | cancel (lock check : Byte)
  | queryLock (lock check : Byte)
  | queryMembers (check : Byte)
  | readEvent (check : Byte)
  | readEventComplete
  | lineIdle
  | busStart
  | arbitrationLost
  | crcHandoff (frame : RawFrame)
  | errorFlag (cause : FlagCause)
  | frameDelivery (slots : Slots)
  | lineStuck
  | presenceTimerExpiry
  | silenceTimerExpiry (peer : StationId)
  | firstContactExpiry
  | joinDeadlineExpiry
  | waitTimerExpiry (lock : LockId)
  | yieldWaitExpiry
  | missingEdge (met : LineFault)
  | bitFaultDetected (cell : FaultCell)
  | byteComplete (sdi : Byte)
  deriving DecidableEq, Repr

end Sys2Proof
end

