-- ==== Sys2Proof/Config.lean ====
section
/-! DEFINITION. What the manual fixes for every LC16, as named numbers, and the free values: constants without a
body, for the values the manual leaves open. -/

namespace Sys2Proof.Config

/-- The request queue holds at most 8 entries (R140). -/
abbrev queueCapacity : Nat := 8

/-- The catch-up log holds at most 32 records (R110, R112). -/
abbrev logCapacity : Nat := 32

/-- The consecutive-failure count at which a station enters FAULT (R33). -/
abbrev failureLimit : Nat := 16

/-- The join-attempt count at which a further cause gives up the join (R96, R97). -/
abbrev attemptLimit : Nat := 4

/-- The merged count and the merges since capture stop at 15 (R160, R165). -/
abbrev mergeLimit : Nat := 15

/-- The bit times of dominant level that make a line stuck (R6). -/
abbrev stuckLimit : Nat := 32

/-- The highest LENGTH a frame may carry (R8, R16). -/
abbrev maxLength : Nat := 56

/-- P, K and Jmul after nRESET (Table 4-4). -/
abbrev defaultP : Byte := 20
abbrev defaultK : Byte := 5
abbrev defaultJmul : Byte := 100

/-- FREE VALUE (log 13). The TRY flag of an intent that a GRANTED notice makes HELD out of IDLE (R149): Table 8-1
says it is present, and no rule says what it holds. The counter `State.free` picks the next one. -/
opaque freeTryFlag : Nat → Bool

/-- FREE VALUE (log 13). The wait limit of such an intent. -/
opaque freeWaitLimit : Nat → Word16

/-- FREE VALUE (log 14). The epoch that a rule reads at a station whose epoch is "none", where the manual says the
epoch is numeric. No run reaches such a state (R27, R39). -/
opaque epochWhenNone : Word16

end Sys2Proof.Config
end

