-- ==== Sys2Proof/Machine/State.lean ====
section
/-! DEFINITION. The state of one LC16: its nine blocks as the chapters list them, its pins, and the queue of waiting
commands. Plain data. `State.reset` is the part right after a release of nRESET (R179, Table 10-4). -/

namespace Sys2Proof.Machine

/-! ### What frames and tables are made of -/

/-- The mode a request asks for (R41). -/
inductive Mode where
  | shared
  | exclusive
  deriving DecidableEq, Repr

/-- The mode of a lock entry (R41). -/
inductive LockMode where
  | free
  | shared
  | exclusive
  deriving DecidableEq, Repr

/-- A pair of the waiter list (R41). -/
structure Waiter where
  station : StationId
  mode    : Mode
  deriving DecidableEq, Repr

/-- One entry of the lock table; the waiters stand oldest first (R41). -/
structure LockEntry where
  mode    : LockMode
  holders : StationSet
  waiters : List Waiter
  grants  : Word16
  deriving DecidableEq, Repr

/-- A station's status in the membership table (R64). -/
inductive MemberStatus where
  | absent
  | joining
  | active
  deriving DecidableEq, Repr

/-- One entry of the membership table (R64). -/
structure MemberEntry where
  status    : MemberStatus
  joinEpoch : Word16
  deriving DecidableEq, Repr

/-- The ten frame kinds (Table 1-2). -/
inductive Kind where
  | genesis
  | join
  | evict
  | leave
  | ready
  | snapshot
  | acquire
  | release
  | cancel
  | presence
  deriving DecidableEq, Repr

/-- The content of a SNAPSHOT segment (R105): segment 0 holds the membership records; the lock segment with index
`pair + 1` holds lock entries `2 * pair` and `2 * pair + 1`. -/
inductive Segment where
  | members (records : Vector MemberEntry 16)
  | locks (pair : Fin 32) (first second : LockEntry)
  deriving DecidableEq, Repr

/-- The content of a frame: its kind and its payload fields (Table 12-3). -/
inductive Content where
  | genesis
  | join
  | evict (epoch : Word16) (target : StationId)
  | leave (epoch : Word16)
  | ready (epoch : Word16)
  | snapshot (target : StationId) (e j : Word16) (segment : Segment)
  | acquire (epoch : Word16) (lock : LockId) (mode : Mode) (try_ : Bool)
  | release (epoch : Word16) (lock : LockId)
  | cancel (epoch : Word16) (lock : LockId)
  | presence (epoch : Word16)
  deriving DecidableEq, Repr

/-- A frame whose fields are all valid. -/
structure Frame where
  sender  : StationId
  content : Content
  deriving DecidableEq, Repr

/-- A change that a committed frame other than GENESIS makes to the tables, without its sender: what a record of the
catch-up log keeps (R111). -/
inductive Change where
  | join
  | leave
  | ready
  | evict (target : StationId)
  | acquire (lock : LockId) (mode : Mode) (try_ : Bool)
  | release (lock : LockId)
  | cancel (lock : LockId)
  deriving DecidableEq, Repr

/-- The offered frame, with every field but the epoch field (R125, R132). -/
inductive Offered where
  | join
  | genesis
  | ready
  | evict (target : StationId)
  | segment (target : StationId) (e j : Word16) (segment : Segment)
  | presence
  | cancel (lock : LockId)
  | acquire (lock : LockId) (mode : Mode) (try_ : Bool)
  | release (lock : LockId)
  | leave
  deriving DecidableEq, Repr

/-! ### Line Unit (chapter 1) -/

/-- The bit rates of Table 1-1, in kbit/s. -/
inductive BitRate where
  | k125
  | k250
  | k500
  | k1000
  deriving DecidableEq, Repr

/-- The transmit phase (R10). -/
inductive TxPhase where
  | idle
  | contending
  | sending
  | slots
  | ending
  deriving DecidableEq, Repr

/-- The reception phase of the Line Unit (R4). -/
inductive RxPhase where
  | settling
  | quiet
  | body
  | verdict
  | closing
  deriving DecidableEq, Repr

/-- What has become of the frame now on the line at this station. -/
inductive Reception where
  /-- The station has its place in the frame. -/
  | following
  /-- A missing edge in the body: truncated unless an edge comes before idle (R17). -/
  | abandoned
  /-- The place in the frame is lost; it will be delivered as a slot fault without contents (R17). -/
  | lostPlace
  /-- A closing cell is wrong; it will be delivered as a slot fault with its contents (R18). -/
  | slotFault
  /-- Its delivery has been taken (R14). -/
  | delivered
  deriving DecidableEq, Repr

/-- The receive assembly (chapter 1, introduction). `crc` is the running CRC register (R9). -/
structure Assembly where
  code        : Option (BitVec 6)
  sender      : Option StationId
  length      : Option Byte
  payload     : List Byte
  crc         : Word16
  formatFault : Bool
  errorFlag   : Bool
  slots       : Option Slots
  deriving DecidableEq, Repr

/-- The receive assembly before the first cell of a frame: the CRC register holds its initial value (R9). -/
def Assembly.empty : Assembly :=
  { code := none, sender := none, length := none, payload := [], crc := 0xFFFF,
    formatFault := false, errorFlag := false, slots := none }

structure LineUnit where
  rate      : BitRate
  tx        : TxPhase
  /-- The own frame was aborted in its slots, where its remaining cells are plain 1 cells, or after them (R13, log 32). -/
  aborted   : Bool
  /-- The own frame on the wire, as fixed at its SOF (R10). -/
  fixed     : Option Frame
  bitFault  : Bool
  rx        : RxPhase
  reception : Reception
  assembly  : Assembly
  dominant  : Nat
  deriving DecidableEq, Repr

/-! ### Commit Unit (chapter 2) -/

/-- The last fault cause (R35). -/
inductive FaultCause where
  | none
  | rejectLimit
  | lineStuck
  deriving DecidableEq, Repr

/-- The drive record: the slots this station decided to drive dominant (R19, R21). -/
structure DriveRecord where
  reject  : Bool
  agree   : Bool
  dissent : Bool
  deriving DecidableEq, Repr

/-- No slot driven. -/
def DriveRecord.empty : DriveRecord := { reject := false, agree := false, dissent := false }

structure CommitUnit where
  /-- `none` is the epoch "none" (R27). -/
  epoch     : Option Word16
  failures  : Nat
  lastFault : FaultCause
  drive     : DriveRecord
  deriving DecidableEq, Repr

/-! ### Table Engine (chapters 3 and 4) -/

/-- The table validity (R39). -/
inductive Validity where
  | none
  | partial_
  | complete
  deriving DecidableEq, Repr

structure TableEngine where
  validity : Validity
  locks    : Vector LockEntry 64
  members  : Vector MemberEntry 16
  deriving DecidableEq, Repr

/-- FREE, nobody holding or waiting, grant count 0: every entry of a fresh table (R58). -/
def LockEntry.fresh : LockEntry := { mode := .free, holders := 0, waiters := [], grants := 0 }

/-- ABSENT with join epoch 0 (R65). -/
def MemberEntry.absent : MemberEntry := { status := .absent, joinEpoch := 0 }

/-- A table of validity NONE. Its entries hold no value the part reports or uses (R39, R60); the model stores blank
ones, here and for the lock entries not yet loaded of a PARTIAL table (DESIGN CHOICE, log 12). -/
def TableEngine.discarded : TableEngine :=
  { validity := .none
    locks := Vector.replicate 64 LockEntry.fresh
    members := Vector.replicate 16 MemberEntry.absent }

/-! ### Transfer Unit (chapter 6) -/

/-- The donor phase. -/
inductive DonorPhase where
  | free
  | serving
  deriving DecidableEq, Repr

/-- An image of both tables, with E, the target and J (R104). -/
structure Image where
  members : Vector MemberEntry 16
  locks   : Vector LockEntry 64
  e       : Word16
  target  : StationId
  j       : Word16
  deriving DecidableEq, Repr

/-- A pair of the served set (R107). -/
structure Served where
  station   : StationId
  joinEpoch : Word16
  deriving DecidableEq, Repr

/-- The reception phase of the joiner side (R110). -/
inductive JoinPhase where
  | closed
  | listening
  | loading
  deriving DecidableEq, Repr

/-- A record of the catch-up log (R111). -/
structure LogRecord where
  sender : StationId
  change : Change
  deriving DecidableEq, Repr

/-- The current transfer (R117); `expected` is the expected index. -/
structure Transfer where
  donor    : StationId
  e        : Word16
  j        : Word16
  expected : Nat
  deriving DecidableEq, Repr

structure TransferUnit where
  donorPhase  : DonorPhase
  image       : Option Image
  nextSegment : Fin 33
  served      : List Served
  phase       : JoinPhase
  log         : List LogRecord
  discards    : Nat
  current     : Option Transfer
  deriving DecidableEq, Repr

/-- The Transfer Unit after nRESET and after every departure (Table 6-2). -/
def TransferUnit.initial : TransferUnit :=
  { donorPhase := .free, image := none, nextSegment := 0, served := [],
    phase := .closed, log := [], discards := 0, current := none }

/-! ### Station Controller (chapters 4 and 5) -/

/-- The station state (Table 5-1). -/
inductive StationState where
  | detached
  | seeking
  | founding
  | receiving
  | synced
  | active
  | fault
  deriving DecidableEq, Repr

/-- A timer. Elapsed time is not modelled; an expiry is a command (log 1). Only the presence timer stands `expired`
(R75). -/
inductive Timer where
  | stopped
  | running
  | expired
  deriving DecidableEq, Repr

/-- The pending control frame of a joining state (R128, place 1). -/
inductive Control where
  | join
  | genesis
  | ready
  deriving DecidableEq, Repr

structure Controller where
  station         : StationState
  id              : StationId
  attempts        : Nat
  leavePending    : Bool
  control         : Option Control
  evicts          : StationSet
  presencePending : Bool
  firstContact    : Timer
  joinDeadline    : Timer
  deadlineHeld    : Bool
  contact         : Bool
  presence        : Timer
  silence         : Vector Timer 16
  p               : Byte
  k               : Byte
  jmul            : Byte
  deriving DecidableEq, Repr

/-! ### Intent Unit (chapter 8) -/

/-- The intent states (R138). -/
inductive IntentState where
  | idle
  | requesting
  | waiting
  | held
  | releasing
  | cancelling
  deriving DecidableEq, Repr

/-- A cancel cause or a cancel-after mark (R138). -/
inductive CancelCause where
  | host
  | timeout
  deriving DecidableEq, Repr

/-- Where an outstanding CANCEL stands (R138). -/
inductive CancelPlace where
  | due
  | placed
  | onWire
  deriving DecidableEq, Repr

/-- An intent record; an absent field is `none` (Table 8-1). -/
structure IntentRecord where
  state       : IntentState
  mode        : Option Mode
  tryFlag     : Option Bool
  waitLimit   : Option Word16
  cause       : Option CancelCause
  mark        : Option CancelCause
  token       : Option Word16
  outstanding : Option CancelPlace
  deriving DecidableEq, Repr

/-- IDLE, with every field absent (Table 8-1). -/
def IntentRecord.idle : IntentRecord :=
  { state := .idle, mode := none, tryFlag := none, waitLimit := none, cause := none, mark := none,
    token := none, outstanding := none }

/-- An entry of the request queue (R140). -/
inductive QueueEntry where
  | acquire (lock : LockId) (mode : Mode) (try_ : Bool)
  | release (lock : LockId)
  | leave
  deriving DecidableEq, Repr

/-- The offer record of the Intent Unit (R141). -/
structure OfferRecord where
  frame  : Offered
  onWire : Bool
  deriving DecidableEq, Repr

structure IntentUnit where
  records : Vector IntentRecord 64
  queue   : List QueueEntry
  timers  : Vector Timer 64
  offer   : Option OfferRecord
  deriving DecidableEq, Repr

/-- The Intent Unit after nRESET (Table 8-6). -/
def IntentUnit.initial : IntentUnit :=
  { records := Vector.replicate 64 IntentRecord.idle
    queue := []
    timers := Vector.replicate 64 Timer.stopped
    offer := none }

/-! ### Transmit Selector (chapter 7) -/

structure Selector where
  offered   : Option Offered
  onWire    : Bool
  yieldFlag : Bool
  yieldWait : Timer
  deriving DecidableEq, Repr

/-- The Transmit Selector after nRESET (Table 7-3). -/
def Selector.initial : Selector :=
  { offered := none, onWire := false, yieldFlag := false, yieldWait := .stopped }

/-! ### Event Queue (chapter 9) -/

/-- The outcome of a lock event with the fields it carries (Table 8-7). -/
inductive LockOutcome where
  | granted (mode : Mode) (token : Word16) (overtaken : Bool)
  | queued (mode : Mode) (position : Nat)
  | denied
  | released
  | cancelled
  | timedOut
  | lost
  deriving DecidableEq, Repr

/-- A station event with the fields it carries (Table 9-1). -/
inductive StationEvent where
  | joined
  | left
  | evicted
  | outOfStep
  | fault (cause : FaultCause)
  | joinFailed
  | membersChanged (active : StationSet)
  deriving DecidableEq, Repr

/-- An event, of class LOCK or of class STATION (R158). -/
inductive Event where
  | lock (lock : LockId) (outcome : LockOutcome)
  | station (event : StationEvent)
  deriving DecidableEq, Repr

/-- The key of an entry: its class and its subject (R158). A station event's subject is its kind's number in
Table 12-15. -/
inductive EventKey where
  | lock (lock : LockId)
  | station (kind : Fin 8)
  deriving DecidableEq, Repr

/-- An entry of the event queue: the latest event under its key, and the merged count (R158, R160). -/
structure EventRecord where
  event  : Event
  merged : Nat
  deriving DecidableEq, Repr

/-- The read record of a READ_EVENT in progress (R163). -/
structure ReadRecord where
  key     : EventKey
  changed : Bool
  merges  : Nat
  deriving DecidableEq, Repr

structure EventQueue where
  entries : List EventRecord
  /-- `true`: ATTN is asserted, driven low (R166). -/
  attn    : Bool
  reading : Option ReadRecord
  deriving DecidableEq, Repr

/-- The Event Queue after nRESET (Table 9-2). -/
def EventQueue.initial : EventQueue := { entries := [], attn := false, reading := none }

/-! ### Host Port (chapter 10) -/

/-- The transaction phase (R169). -/
inductive PortPhase where
  | deselected
  | command
  | turnaround
  | response
  | trailing
  deriving DecidableEq, Repr

structure HostPort where
  phase    : PortPhase
  /-- The code byte and the parameter bytes received so far. -/
  buffer   : List Byte
  /-- The bits received in the byte now arriving (log 18). -/
  bitCount : Nat
  /-- The status byte and the response bytes. -/
  response : List Byte
  /-- How many bytes of `response` have been shifted out. -/
  shifted  : Nat
  deriving DecidableEq, Repr

/-- The Host Port after nRESET (Table 10-4). -/
def HostPort.initial : HostPort :=
  { phase := .deselected, buffer := [], bitCount := 0, response := [], shifted := 0 }

/-! ### The station -/

structure State where
  /-- The part is held in reset (R178). -/
  inReset  : Bool
  /-- The level of the nCS input. -/
  ncsLow   : Bool
  line     : LineUnit
  commit   : CommitUnit
  table    : TableEngine
  transfer : TransferUnit
  ctrl     : Controller
  intents  : IntentUnit
  sel      : Selector
  events   : EventQueue
  port     : HostPort
  /-- The model's own counter of free values (log 13). -/
  free     : Nat
  /-- The commands that wait, first in, first out (log 1). -/
  pending  : List Instr
  deriving DecidableEq, Repr

/-- The faults a step can end in: none. What the manual calls a fault is an effect on the state. -/
inductive Fault where
  deriving DecidableEq, Repr

/-- The refusals a step can end in. -/
inductive Refusal where
  /-- Raised by an arm of `exec` whose command has no meaning yet, by the command's name. No arm of this model raises
  it. Safe: the machine stops. -/
  | notModelled (mnemonic : String)
  deriving DecidableEq, Repr

/-! ### Reset -/

/-- The bit rate of Table 1-1 for the levels of RATE1 and RATE0 (R1). -/
def rateOf : Bool → Bool → BitRate
  | false, false => .k125
  | false, true  => .k250
  | true,  false => .k500
  | true,  true  => .k1000

/-- The Line Unit at a release of nRESET (Table 10-4). -/
def LineUnit.initial (rate : BitRate) : LineUnit :=
  { rate, tx := .idle, aborted := false, fixed := none, bitFault := false, rx := .settling,
    reception := .following, assembly := .empty, dominant := 0 }

/-- The Commit Unit at a release of nRESET (R38, Table 10-4). -/
def CommitUnit.initial : CommitUnit :=
  { epoch := none, failures := 0, lastFault := .none, drive := .empty }

/-- The Station Controller at a release of nRESET (R83, Table 10-4). -/
def Controller.initial (id : StationId) : Controller :=
  { station := .detached, id, attempts := 0, leavePending := false, control := none, evicts := 0,
    presencePending := false, firstContact := .stopped, joinDeadline := .stopped, deadlineHeld := false,
    contact := false, presence := .stopped, silence := Vector.replicate 16 .stopped,
    p := Config.defaultP, k := Config.defaultK, jmul := Config.defaultJmul }

/-- Every block in its state of Table 10-4. -/
def State.initial (id : StationId) (rate : BitRate) (inReset ncsLow : Bool) (free : Nat)
    (pending : List Instr) : State :=
  { inReset, ncsLow, line := .initial rate, commit := .initial, table := .discarded, transfer := .initial,
    ctrl := .initial id, intents := .initial, sel := .initial, events := .initial, port := .initial,
    free, pending }

/-- The part right after a release of nRESET (R179), with all four ID straps and both RATE straps low and nCS high
(DESIGN CHOICE, log 9), and no command waiting. -/
def State.reset : State := State.initial 0 (rateOf false false) false false 0 []

end Sys2Proof.Machine
end

