-- ==== Sys2Proof/Machine/Sets.lean ====
section
/-! DEFINITION. Reading and writing one entry of a fixed table, sets of stations, and the byte order of 16-bit
numbers (chapter 12: most significant byte first). -/

namespace Sys2Proof.Machine

/-! ### Tables -/

/-- The entry of a table at an index. -/
def entryAt {α : Type} {n : Nat} (t : Vector α n) (i : Fin n) : α := t[i.val]'i.isLt

/-- The table with the entry at an index replaced. -/
def setEntry {α : Type} {n : Nat} (t : Vector α n) (i : Fin n) (a : α) : Vector α n := t.set i.val a i.isLt

/-- The station numbers, lowest first. -/
def allStations : List StationId := List.finRange 16

/-- The lock numbers, lowest first. -/
def allLocks : List LockId := List.finRange 64

/-! ### Sets of stations -/

/-- Whether a station is in a set. -/
def inSet (s : StationSet) (i : StationId) : Bool := s.getLsbD i.val

/-- The set of one station. -/
def single (i : StationId) : StationSet := BitVec.twoPow 16 i.val

/-- A set with one station added. -/
def addTo (s : StationSet) (i : StationId) : StationSet := s ||| single i

/-- A set with one station taken out. -/
def takeFrom (s : StationSet) (i : StationId) : StationSet := s &&& ~~~ single i

/-- The set of the stations that meet a test. -/
def stationsWith (p : StationId → Bool) : StationSet :=
  allStations.foldl (fun s i => if p i then addTo s i else s) 0

/-- How many stations a set holds. -/
def sizeOfSet (s : StationSet) : Nat := allStations.countP (inSet s)

/-- The lowest station of a set. -/
def lowestOf (s : StationSet) : Option StationId := allStations.find? (inSet s)

/-! ### Bytes -/

/-- The high byte of a 16-bit number. -/
def hiByte (w : Word16) : Byte := w.extractLsb' 8 8

/-- The low byte of a 16-bit number. -/
def loByte (w : Word16) : Byte := w.extractLsb' 0 8

/-- A 16-bit number in its two bytes, most significant first (chapter 12). -/
def bytesOf (w : Word16) : List Byte := [hiByte w, loByte w]

/-- The 16-bit number of a high and a low byte. -/
def wordOf (hi lo : Byte) : Word16 := (hi ++ lo : BitVec (8 + 8))

/-- The bits of a number, most significant first, as cells and bytes are sent (R7). -/
def bitsOf {n : Nat} (w : BitVec n) : List Bool := (List.range n).map w.getMsbD

/-- A byte read as a station number, where it is one (0 to 15). -/
def stationOf (b : Byte) : Option StationId := if h : b.toNat < 16 then some ⟨b.toNat, h⟩ else none

/-- A byte read as a lock number, where it is one (0 to 63). -/
def lockOf (b : Byte) : Option LockId := if h : b.toNat < 64 then some ⟨b.toNat, h⟩ else none

/-- A station number as a byte. -/
def stationByte (i : StationId) : Byte := BitVec.ofNat 8 i.val

/-- A lock number as a byte. -/
def lockByte (l : LockId) : Byte := BitVec.ofNat 8 l.val

end Sys2Proof.Machine
end

