-- ==== Sys2Proof/Machine/Formats.lean ====
section
/-! DEFINITION. The layouts of chapter 12 on BUSD: kind codes, payloads, SNAPSHOT segments, the CRC, and what a
receiver finds wrong with a frame (R8, R9, R15, R16). -/

namespace Sys2Proof.Machine

/-! ### Kinds -/

/-- The kind code (Table 12-2). -/
def codeOf : Kind → BitVec 6
  | .genesis => 0x02
  | .join => 0x04
  | .evict => 0x06
  | .leave => 0x08
  | .ready => 0x0A
  | .snapshot => 0x12
  | .acquire => 0x21
  | .release => 0x22
  | .cancel => 0x23
  | .presence => 0x31

/-- The ten kinds, in the order of their codes (Table 1-2). -/
def allKinds : List Kind :=
  [.genesis, .join, .evict, .leave, .ready, .snapshot, .acquire, .release, .cancel, .presence]

/-- The kind a code names, where Table 12-2 lists it. -/
def kindOf (code : BitVec 6) : Option Kind := allKinds.find? (fun k => codeOf k == code)

/-- The LENGTH that the kind fixes; SNAPSHOT fixes none (Table 1-2). -/
def fixedLength : Kind → Option Nat
  | .genesis => some 0
  | .join => some 0
  | .evict => some 3
  | .leave => some 2
  | .ready => some 2
  | .snapshot => none
  | .acquire => some 4
  | .release => some 3
  | .cancel => some 3
  | .presence => some 2

/-- The frame's kind. -/
def Content.kind : Content → Kind
  | .genesis => .genesis
  | .join => .join
  | .evict _ _ => .evict
  | .leave _ => .leave
  | .ready _ => .ready
  | .snapshot _ _ _ _ => .snapshot
  | .acquire _ _ _ _ => .acquire
  | .release _ _ => .release
  | .cancel _ _ => .cancel
  | .presence _ => .presence

/-- The kinds that carry an epoch field (R20). -/
def epochBearing : Kind → Bool
  | .evict | .leave | .ready | .acquire | .release | .cancel | .presence => true
  | .genesis | .join | .snapshot => false

/-- The request class: class bits 10 (R8). -/
def requestClass : Kind → Bool
  | .acquire | .release | .cancel => true
  | .genesis | .join | .evict | .leave | .ready | .snapshot | .presence => false

/-- The epoch field, where the kind carries one. -/
def Content.epoch? : Content → Option Word16
  | .evict e _ | .leave e | .ready e | .acquire e _ _ _ | .release e _ | .cancel e _ | .presence e => some e
  | .genesis | .join | .snapshot _ _ _ _ => none

/-- The change a committed frame makes; GENESIS has its own rule (R30), and PRESENCE and SNAPSHOT do not commit
(R22). -/
def Content.change? : Content → Option Change
  | .join => some .join
  | .leave _ => some .leave
  | .ready _ => some .ready
  | .evict _ t => some (.evict t)
  | .acquire _ l m t => some (.acquire l m t)
  | .release _ l => some (.release l)
  | .cancel _ l => some (.cancel l)
  | .genesis | .snapshot _ _ _ _ | .presence _ => none

/-! ### Field encodings -/

/-- The mode byte of an ACQUIRE (Table 12-4). -/
def modeByte (m : Mode) (try_ : Bool) : Byte :=
  match m, try_ with
  | .shared, false => 0x00
  | .exclusive, false => 0x01
  | .shared, true => 0x80
  | .exclusive, true => 0x81

/-- A mode byte read back; any other byte is undefined (Table 12-4). -/
def modeOf (b : Byte) : Option (Mode × Bool) :=
  if b = 0x00 then some (.shared, false)
  else if b = 0x01 then some (.exclusive, false)
  else if b = 0x80 then some (.shared, true)
  else if b = 0x81 then some (.exclusive, true)
  else none

/-- The mode of a lock entry as a byte (Table 12-6). -/
def lockModeByte : LockMode → Byte
  | .free => 0
  | .shared => 1
  | .exclusive => 2

/-- A lock mode byte read back (Table 12-6). -/
def lockModeOf (b : Byte) : Option LockMode :=
  if b = 0 then some .free else if b = 1 then some .shared else if b = 2 then some .exclusive else none

/-- A status byte (12.2). -/
def statusByte : MemberStatus → Byte
  | .absent => 0
  | .joining => 1
  | .active => 2

/-- A status byte read back (12.2). -/
def statusOf (b : Byte) : Option MemberStatus :=
  if b = 0 then some .absent else if b = 1 then some .joining else if b = 2 then some .active else none

/-- A waiter byte (Table 12-7): the mode in bit 4, the station in bits 3 to 0. -/
def waiterByte (w : Waiter) : Byte :=
  match w.mode with
  | .shared => stationByte w.station
  | .exclusive => 0x10 ||| stationByte w.station

/-- A waiter byte read back; bits 7 to 5 must be 0 (R15). -/
def waiterOf (b : Byte) : Option Waiter :=
  if b.toNat < 16 then (stationOf b).map (fun i => ⟨i, .shared⟩)
  else if b.toNat < 32 then (stationOf (b - 0x10)).map (fun i => ⟨i, .exclusive⟩)
  else none

/-- A membership record: the status byte, then the join epoch (12.2). -/
def memberBytes (m : MemberEntry) : List Byte := statusByte m.status :: bytesOf m.joinEpoch

/-- A lock entry in a segment (Table 12-6). -/
def entryBytes (e : LockEntry) : List Byte :=
  lockModeByte e.mode :: (bytesOf e.holders ++ bytesOf e.grants ++
    BitVec.ofNat 8 e.waiters.length :: e.waiters.map waiterByte)

/-- The index of a segment (R105). -/
def Segment.index : Segment → Nat
  | .members _ => 0
  | .locks pair _ _ => pair.val + 1

/-- The content of a segment after its header (R105). -/
def Segment.bytes : Segment → List Byte
  | .members records => records.toList.flatMap memberBytes
  | .locks _ first second => entryBytes first ++ entryBytes second

/-- The payload of a frame (Tables 12-3 and 12-5). -/
def Content.payload : Content → List Byte
  | .genesis => []
  | .join => []
  | .evict e t => bytesOf e ++ [stationByte t]
  | .leave e => bytesOf e
  | .ready e => bytesOf e
  | .snapshot t e j s =>
      stationByte t :: (bytesOf e ++ bytesOf j ++ BitVec.ofNat 8 s.index :: s.bytes)
  | .acquire e l m t => bytesOf e ++ [lockByte l, modeByte m t]
  | .release e l => bytesOf e ++ [lockByte l]
  | .cancel e l => bytesOf e ++ [lockByte l]
  | .presence e => bytesOf e

/-! ### Reading a payload back -/

/-- Reads `n` membership records that fill the bytes. -/
def parseMembers : Nat → List Byte → Option (List MemberEntry)
  | 0, [] => some []
  | n + 1, s :: hi :: lo :: rest =>
      match statusOf s, parseMembers n rest with
      | some st, some ms => some (⟨st, wordOf hi lo⟩ :: ms)
      | _, _ => none
  | _, _ => none

/-- Sixteen records as a membership table. -/
def membersOf (ms : List MemberEntry) : Option (Vector MemberEntry 16) :=
  if h : ms.length = 16 then some ⟨ms.toArray, by simp [h]⟩ else none

/-- Reads waiter bytes. -/
def parseWaiters : List Byte → Option (List Waiter)
  | [] => some []
  | b :: rest =>
      match waiterOf b, parseWaiters rest with
      | some w, some ws => some (w :: ws)
      | _, _ => none

/-- Reads one lock entry and answers the bytes after it. The payload must not end before any of the entry's fields,
and the waiter count must not exceed 15 (R15). -/
def parseEntry : List Byte → Option (LockEntry × List Byte)
  | m :: h1 :: h0 :: g1 :: g0 :: count :: rest =>
      if 15 < count.toNat ∨ rest.length < count.toNat then none
      else
        match lockModeOf m, parseWaiters (rest.take count.toNat) with
        | some mode, some ws =>
            some ({ mode, holders := wordOf h1 h0, waiters := ws, grants := wordOf g1 g0 }, rest.drop count.toNat)
        | _, _ => none
  | _ => none

/-- Reads the content of the segment with a given index (R15, R105). A lock segment's two entries must fill it: its
LENGTH is 18 plus the two waiter counts. -/
def parseSegment (index : Byte) (bytes : List Byte) : Option Segment :=
  if index = 0 then
    ((parseMembers 16 bytes).bind membersOf).map .members
  else if h : index.toNat - 1 < 32 then
    match parseEntry bytes with
    | some (first, rest) =>
        match parseEntry rest with
        | some (second, []) => some (.locks ⟨index.toNat - 1, h⟩ first second)
        | _ => none
    | none => none
  else none

/-- Reads a SNAPSHOT's payload (Table 12-5). -/
def parseSnapshot : List Byte → Option Content
  | t :: e1 :: e0 :: j1 :: j0 :: index :: rest =>
      match stationOf t, parseSegment index rest with
      | some target, some segment => some (.snapshot target (wordOf e1 e0) (wordOf j1 j0) segment)
      | _, _ => none
  | _ => none

/-- Reads a payload of a kind. It answers none exactly where a field fault of R15 stands in it, or the number of
bytes is not the kind's. -/
def parseContent (k : Kind) (payload : List Byte) : Option Content :=
  match k with
  | .snapshot => parseSnapshot payload
  | .genesis => if payload = [] then some .genesis else none
  | .join => if payload = [] then some .join else none
  | .leave => match payload with
      | [e1, e0] => some (.leave (wordOf e1 e0))
      | _ => none
  | .ready => match payload with
      | [e1, e0] => some (.ready (wordOf e1 e0))
      | _ => none
  | .presence => match payload with
      | [e1, e0] => some (.presence (wordOf e1 e0))
      | _ => none
  | .evict => match payload with
      | [e1, e0, t] => (stationOf t).map (.evict (wordOf e1 e0))
      | _ => none
  | .release => match payload with
      | [e1, e0, l] => (lockOf l).map (.release (wordOf e1 e0))
      | _ => none
  | .cancel => match payload with
      | [e1, e0, l] => (lockOf l).map (.cancel (wordOf e1 e0))
      | _ => none
  | .acquire => match payload with
      | [e1, e0, l, m] =>
          match lockOf l, modeOf m with
          | some lock, some (mode, try_) => some (.acquire (wordOf e1 e0) lock mode try_)
          | _, _ => none
      | _ => none

/-! ### CRC (R9) -/

/-- One covered bit through the CRC register (R9). -/
def crcStep (register : Word16) (bit : Bool) : Word16 :=
  let shifted := register <<< 1
  if bit ^^ register.msb then shifted ^^^ 0x2F15 else shifted

/-- The CRC over kind code, sender id, LENGTH and payload, in the order they are sent (R9). -/
def crcOf (code : BitVec 6) (sender : StationId) (length : Byte) (payload : List Byte) : Word16 :=
  (bitsOf code ++ bitsOf (BitVec.ofNat 4 sender.val) ++ bitsOf length ++ payload.flatMap bitsOf).foldl crcStep 0xFFFF

/-! ### Whole frames -/

/-- The bits of a frame as its sender sends them (R7, R8, R9). -/
def rawOf (f : Frame) : RawFrame :=
  let payload := f.content.payload
  let code := codeOf f.content.kind
  let length := BitVec.ofNat 8 payload.length
  { code, sender := f.sender, length, payload, crc := crcOf code f.sender length payload }

/-- The arbitration field as a number: kind code, then sender id (R7, R11). The lowest field wins. -/
def arbitrationField (raw : RawFrame) : BitVec 10 := (raw.code ++ BitVec.ofNat 4 raw.sender.val : BitVec (6 + 4))

/-- The cells of the frame body, SOF through CRC, as its sender sends them; `false` is a 0 cell (R7). -/
def bodyCells (raw : RawFrame) : List Bool :=
  false :: (bitsOf (arbitrationField raw) ++ bitsOf raw.length ++ raw.payload.flatMap bitsOf ++ bitsOf raw.crc)

/-- A length fault for a kind (R16). -/
def lengthFault (k : Kind) (length : Byte) : Bool :=
  decide (Config.maxLength < length.toNat) ||
    match fixedLength k with
    | some n => length.toNat != n
    | none => decide (length.toNat < 6)

/-- The receiver can place the verdict slots: the kind is known, LENGTH has no fault, and the payload is as long as
LENGTH declares (R14, R16). -/
def placeable (raw : RawFrame) : Bool :=
  match kindOf raw.code with
  | some k => !lengthFault k raw.length && raw.payload.length == raw.length.toNat
  | none => false

/-- The content of an assembled frame, where its fields are valid (R15). -/
def contentOf (raw : RawFrame) : Option Content :=
  (kindOf raw.code).bind (parseContent · raw.payload)

/-- The format faults of R15, at a receiver with a given id. -/
def formatFaultOf (raw : RawFrame) (self : StationId) : Bool :=
  raw.crc != crcOf raw.code raw.sender raw.length raw.payload || (contentOf raw).isNone || raw.sender == self

end Sys2Proof.Machine
end

