-- ==== Sys2Proof/Machine/Ops.lean ====
section
/-! DEFINITION. One named update for each block of the state, and the readings of a state that several blocks share.
Every meaning changes the state through these updates; Laws/State.lean has their small lemmas. -/

namespace Sys2Proof.Machine

/-- The state with the Line Unit replaced. -/
def State.setLine (s : State) (x : LineUnit) : State := { s with line := x }

/-- The state with the Commit Unit replaced. -/
def State.setCommit (s : State) (x : CommitUnit) : State := { s with commit := x }

/-- The state with the Table Engine replaced. -/
def State.setTable (s : State) (x : TableEngine) : State := { s with table := x }

/-- The state with the Transfer Unit replaced. -/
def State.setTransfer (s : State) (x : TransferUnit) : State := { s with transfer := x }

/-- The state with the Station Controller replaced. -/
def State.setCtrl (s : State) (x : Controller) : State := { s with ctrl := x }

/-- The state with the Intent Unit replaced. -/
def State.setIntents (s : State) (x : IntentUnit) : State := { s with intents := x }

/-- The state with the Transmit Selector replaced. -/
def State.setSel (s : State) (x : Selector) : State := { s with sel := x }

/-- The state with the Event Queue replaced. -/
def State.setEvents (s : State) (x : EventQueue) : State := { s with events := x }

/-- The state with the Host Port replaced. -/
def State.setPort (s : State) (x : HostPort) : State := { s with port := x }

/-- The state with the level of nCS replaced. -/
def State.setNcs (s : State) (low : Bool) : State := { s with ncsLow := low }

/-- The state with the counter of free values moved on (log 13). -/
def State.nextFree (s : State) : State := { s with free := s.free + 1 }

/-- The state with the queue of waiting commands replaced. -/
def State.setPending (s : State) (q : List Instr) : State := { s with pending := q }

/-- An event that reaches the part only while it is not held in reset (R178). -/
def State.unlessReset (s : State) (f : State → State) : State := if s.inReset then s else f s

/-- The idle that closes the END cell of an own frame which the assertion of nRESET found in its slots: its plain 1
cells are over, and the Line Unit is held in its state of Table 10-4 (R13, R178; log 10). -/
def State.heldIdle (s : State) : State := if s.line.aborted then s.setLine (.initial s.line.rate) else s

/-- The rows of an idle: by the rules while the part is out of reset, and in reset only the end of an own frame's cells
(R178). -/
def State.atIdle (s : State) (f : State → State) : State := if s.inReset then s.heldIdle else f s

/-- The epoch as a number. It is "none" only where no rule reads it; there it is a free value (log 14). -/
def State.epochValue (s : State) : Word16 := s.commit.epoch.getD Config.epochWhenNone

/-- The intent record of a lock. -/
def State.intent (s : State) (l : LockId) : IntentRecord := entryAt s.intents.records l

/-- The state with one intent record replaced. -/
def State.setIntent (s : State) (l : LockId) (r : IntentRecord) : State :=
  s.setIntents { s.intents with records := setEntry s.intents.records l r }

/-- The state with one wait timer set. -/
def State.setWaitTimer (s : State) (l : LockId) (t : Timer) : State :=
  s.setIntents { s.intents with timers := setEntry s.intents.timers l t }

/-- The station neither drives slots nor takes deliveries in DETACHED and in FAULT (R35). -/
def StationState.silent : StationState → Bool
  | .detached | .fault => true
  | .seeking | .founding | .receiving | .synced | .active => false

/-- The status codes of a host transaction (Table 10-3). -/
inductive StatusCode where
  | ok
  | wrongState
  | range
  | duplicate
  | notHolder
  | notWaiting
  | queueFull
  | noTable
  | empty
  | badCheck
  | badCommand
  deriving DecidableEq, Repr

/-- The status byte (Table 12-9). -/
def statusCodeByte : StatusCode → Byte
  | .ok => 0x00
  | .wrongState => 0x01
  | .range => 0x02
  | .duplicate => 0x03
  | .notHolder => 0x04
  | .notWaiting => 0x05
  | .queueFull => 0x06
  | .noTable => 0x07
  | .empty => 0x08
  | .badCheck => 0x0E
  | .badCommand => 0x0F

end Sys2Proof.Machine
end

