-- ==== Sys2Proof/Machine/Events.lean ====
section
/-! DEFINITION. The Event Queue: placing an event, capturing the head and completing a read, ATTN (R158 to R166), and
the layout of an event record (Table 12-14). -/

namespace Sys2Proof.Machine

/-- The number of a station event's kind (Table 12-15). -/
def StationEvent.kindNumber : StationEvent → Fin 8
  | .joined => 1
  | .left => 2
  | .evicted => 3
  | .outOfStep => 4
  | .fault _ => 5
  | .joinFailed => 6
  | .membersChanged _ => 7

/-- The key of an event (R158). -/
def Event.key : Event → EventKey
  | .lock l _ => .lock l
  | .station e => .station e.kindNumber

/-- The key of an entry. -/
def EventRecord.key (r : EventRecord) : EventKey := r.event.key

/-- A count of merges raised by one, to at most 15 (R160, R165). -/
def oneMore (n : Nat) : Nat := min (n + 1) Config.mergeLimit

/-- An entry overwritten by an event under its key: it keeps its place, and its merged count rises (R160). -/
def overwrite (ev : Event) (r : EventRecord) : EventRecord :=
  if r.key = ev.key then { event := ev, merged := oneMore r.merged } else r

/-- The read record after an event is placed: an event under its key sets the changed mark and raises the merges since
capture (R165). -/
def noteChange (ev : Event) (rd : ReadRecord) : ReadRecord :=
  if rd.key = ev.key then { rd with changed := true, merges := oneMore rd.merges } else rd

/-- An event placed in the queue (R160, R165, R166). -/
def EventQueue.place (q : EventQueue) (ev : Event) : EventQueue :=
  if q.entries.any (fun r => r.key == ev.key) then
    { q with entries := q.entries.map (overwrite ev), reading := q.reading.map (noteChange ev) }
  else
    { q with entries := q.entries ++ [{ event := ev, merged := 1 }], attn := true }

/-- The read record made when the head entry is captured (R163). -/
def EventQueue.capture (q : EventQueue) (head : EventRecord) : EventQueue :=
  { q with reading := some { key := head.key, changed := false, merges := 0 } }

/-- The read record acted on when the last response byte has been shifted out (R164). -/
def EventQueue.complete (q : EventQueue) : EventQueue :=
  match q.reading, q.entries with
  | none, _ => q
  | some _, [] => { q with reading := none }
  | some rd, head :: rest =>
      if rd.changed then
        { q with entries := { head with merged := rd.merges } :: rest, reading := none }
      else { entries := rest, attn := !rest.isEmpty, reading := none }

/-- The read record cleared by a rising edge of nCS (R164, R174). -/
def EventQueue.cutShort (q : EventQueue) : EventQueue := { q with reading := none }

/-- A block of the station raises an event (R160). -/
def State.raise (s : State) (ev : Event) : State := s.setEvents (s.events.place ev)

/-- The Intent Unit raises a lock event (R157). -/
def State.raiseLock (s : State) (l : LockId) (o : LockOutcome) : State := s.raise (.lock l o)

/-- A station event is raised (R159). -/
def State.raiseStation (s : State) (e : StationEvent) : State := s.raise (.station e)

/-! ### The record a host reads (Table 12-14) -/

/-- A mode as a byte of a response. -/
def modeBit : Mode → Byte
  | .shared => 0
  | .exclusive => 1

/-- The last fault cause as a byte (Table 12-10, byte 9). -/
def causeByte : FaultCause → Byte
  | .none => 0
  | .rejectLimit => 1
  | .lineStuck => 2

/-- The number of a lock outcome (Table 12-15). -/
def outcomeByte : LockOutcome → Byte
  | .granted _ _ _ => 1
  | .queued _ _ => 2
  | .denied => 3
  | .released => 4
  | .cancelled => 5
  | .timedOut => 6
  | .lost => 7

/-- Bytes 2 to 6 of a lock event: mode, token, position, OVERTAKEN. -/
def outcomeFields : LockOutcome → List Byte
  | .granted m token overtaken => modeBit m :: (bytesOf token ++ [0, if overtaken then 1 else 0])
  | .queued m position => [modeBit m, 0, 0, BitVec.ofNat 8 position, 0]
  | .denied | .released | .cancelled | .timedOut | .lost => [0, 0, 0, 0, 0]

/-- The ten bytes of an event record. -/
def EventRecord.bytes (r : EventRecord) : List Byte :=
  match r.event with
  | .lock l o => [lockByte l, outcomeByte o] ++ outcomeFields o ++ [BitVec.ofNat 8 r.merged, 0, 0]
  | .station e =>
      let subject : Byte := 0x80 ||| BitVec.ofNat 8 e.kindNumber.val
      match e with
      | .fault cause => [subject, causeByte cause, 0, 0, 0, 0, 0, BitVec.ofNat 8 r.merged, 0, 0]
      | .membersChanged active => [subject, 0, 0, 0, 0, 0, 0, BitVec.ofNat 8 r.merged] ++ bytesOf active
      | .joined | .left | .evicted | .outOfStep | .joinFailed =>
          [subject, 0, 0, 0, 0, 0, 0, BitVec.ofNat 8 r.merged, 0, 0]

end Sys2Proof.Machine
end

