-- ==== Sys2Proof/Machine/Offers.lean ====
section
/-! DEFINITION. The frames the sources offer, and a source's withdrawal of one (R125, R132, R136). -/

namespace Sys2Proof.Machine

/-- The source blocks of the Transmit Selector (Table 7-1). -/
inductive Source where
  | controller
  | transfer
  | intents
  deriving DecidableEq, Repr

/-- The block that supplies a frame (Table 7-1). -/
def Offered.source : Offered → Source
  | .join | .genesis | .ready | .evict _ | .presence => .controller
  | .segment _ _ _ _ => .transfer
  | .cancel _ | .acquire _ _ _ | .release _ | .leave => .intents

/-- The frame that an offered frame becomes at an SOF, with the epoch field as it stands then (R10, R132). -/
def Offered.content (epoch : Word16) : Offered → Content
  | .join => .join
  | .genesis => .genesis
  | .ready => .ready epoch
  | .evict t => .evict epoch t
  | .segment t e j s => .snapshot t e j s
  | .presence => .presence epoch
  | .cancel l => .cancel epoch l
  | .acquire l m t => .acquire epoch l m t
  | .release l => .release epoch l
  | .leave => .leave epoch

/-- The kind of an offered frame. -/
def Offered.kind (f : Offered) : Kind := (f.content 0).kind

/-- The lock a request frame names. -/
def Offered.lock? : Offered → Option LockId
  | .cancel l | .acquire l _ _ | .release l => some l
  | .join | .genesis | .ready | .evict _ | .segment _ _ _ _ | .presence | .leave => none

/-- The frame of a pending control frame (R128, place 1). -/
def Control.offer : Control → Offered
  | .join => .join
  | .genesis => .genesis
  | .ready => .ready

/-- The frame of an entry of the request queue (R141). -/
def QueueEntry.offer : QueueEntry → Offered
  | .acquire l m t => .acquire l m t
  | .release l => .release l
  | .leave => .leave

/-- The lock an entry names (R140). -/
def QueueEntry.lock? : QueueEntry → Option LockId
  | .acquire l _ _ | .release l => some l
  | .leave => none

/-- The selector without an offered frame. -/
def Selector.removeOffer (x : Selector) : Selector := { x with offered := none, onWire := false }

/-- The yield flag cleared and the yield wait stopped (R130, R131). -/
def Selector.clearYield (x : Selector) : Selector := { x with yieldFlag := false, yieldWait := .stopped }

/-- The Intent Unit's offer record emptied. -/
def State.forgetOffer (s : State) : State := s.setIntents { s.intents with offer := none }

/-- A source withdraws the offered frame if it passes the test. The request is taken where the frame is off the wire,
and has no effect where it is on the wire (R136). -/
def State.withdraw (s : State) (p : Offered → Bool) : State :=
  match s.sel.offered with
  | some f =>
      if p f && !s.sel.onWire then
        let t := s.setSel s.sel.removeOffer
        if f.source = .intents then t.forgetOffer else t
      else s
  | none => s

/-- The offered frame is the given one and stands on the wire (R125). -/
def State.isOnWire (s : State) (f : Offered) : Bool := s.sel.onWire && s.sel.offered == some f

end Sys2Proof.Machine
end

