-- ==== Sys2Proof/Machine/Locks.lean ====
section
/-! DEFINITION. The lock table's own rules, as functions of one entry: the grant rule (R45, R46), ACQUIRE, RELEASE and
CANCEL (R49 to R53), the purge of one lock (R55), and the laws a loaded entry is checked against (R59). -/

namespace Sys2Proof.Machine

/-- A grant made to a station: its mode and the fencing token (R44, R45). -/
structure Grant where
  station : StationId
  mode    : Mode
  token   : Word16
  deriving DecidableEq, Repr

/-- A requested mode as the mode of the entry it is granted in (R45). -/
def Mode.asLock : Mode → LockMode
  | .shared => .shared
  | .exclusive => .exclusive

/-- Whether a head that asks a mode can be granted in an entry of a mode (R46). -/
def grantable : LockMode → Mode → Bool
  | .free, _ => true
  | .shared, .shared => true
  | .shared, .exclusive => false
  | .exclusive, _ => false

/-- The grant rule on an entry's mode, holders and count, down its waiter list (R46). -/
def grantRun (mode : LockMode) (holders : StationSet) (grants : Word16) : List Waiter → LockEntry × List Grant
  | [] => ({ mode, holders, waiters := [], grants }, [])
  | w :: ws =>
      if grantable mode w.mode then
        let run := grantRun w.mode.asLock (addTo holders w.station) (grants + 1) ws
        (run.1, ⟨w.station, w.mode, grants + 1⟩ :: run.2)
      else ({ mode, holders, waiters := w :: ws, grants }, [])

/-- The grant rule on an entry, with the grants it makes in list order (R46). -/
def grantRule (e : LockEntry) : LockEntry × List Grant := grantRun e.mode e.holders e.grants e.waiters

/-- The station waits for the lock. -/
def LockEntry.waits (e : LockEntry) (s : StationId) : Bool := e.waiters.any (·.station == s)

/-- The station holds the lock. -/
def LockEntry.holds (e : LockEntry) (s : StationId) : Bool := inSet e.holders s

/-- The entry with a station taken out of the holders; the last one leaves it FREE (R42, R51, R55). -/
def dropHolder (e : LockEntry) (s : StationId) : LockEntry :=
  let rest := takeFrom e.holders s
  { e with holders := rest, mode := if rest = 0 then .free else e.mode }

/-- The entry with a station's pair taken out of the waiter list; the others keep their order (R42). -/
def dropWaiter (e : LockEntry) (s : StationId) : LockEntry :=
  { e with waiters := e.waiters.filter (·.station != s) }

/-- What a request frame of this station's meant for its sender (Table 3-2). -/
inductive RequestOutcome where
  | granted (mode : Mode) (token : Word16)
  | queued (mode : Mode) (position : Nat)
  | denied
  | duplicate
  | released
  | releaseNoop
  | cancelled
  | cancelVoid
  deriving DecidableEq, Repr

/-- What an application leaves of one entry: the entry, the outcome for the sender, and the grants the rule made. -/
structure Applied where
  entry   : LockEntry
  outcome : RequestOutcome
  grants  : List Grant
  deriving DecidableEq, Repr

/-- The grant rule at the end of a change to an entry. -/
def thenGrant (e : LockEntry) (outcome : RequestOutcome) : Applied :=
  { entry := (grantRule e).1, outcome, grants := (grantRule e).2 }

/-- The entry with a station granted at once: the four steps of R45 with its pair at the head of an empty list. -/
def grantAtOnce (e : LockEntry) (s : StationId) (m : Mode) : LockEntry :=
  { e with mode := m.asLock, holders := addTo e.holders s, grants := e.grants + 1 }

/-- ACQUIRE from an ACTIVE station, by the first case of Table 3-3 that holds (R49). -/
def acquireEntry (e : LockEntry) (s : StationId) (m : Mode) (try_ : Bool) : Applied :=
  if e.holds s || e.waits s then { entry := e, outcome := .duplicate, grants := [] }
  else if e.waiters.isEmpty && grantable e.mode m then
    thenGrant (grantAtOnce e s m) (.granted m (e.grants + 1))
  else if try_ then { entry := e, outcome := .denied, grants := [] }
  else thenGrant { e with waiters := e.waiters ++ [⟨s, m⟩] } (.queued m (e.waiters.length + 1))

/-- RELEASE from an ACTIVE station (R51). -/
def releaseEntry (e : LockEntry) (s : StationId) : Applied :=
  if e.holds s then thenGrant (dropHolder e s) .released
  else { entry := e, outcome := .releaseNoop, grants := [] }

/-- CANCEL from an ACTIVE station (R52, R53). -/
def cancelEntry (e : LockEntry) (s : StationId) : Applied :=
  if e.waits s then thenGrant (dropWaiter e s) .cancelled
  else { entry := e, outcome := .cancelVoid, grants := [] }

/-- The purge of a station from one lock, with the grants it makes (R55). -/
def purgeEntry (x : StationId) (e : LockEntry) : LockEntry × List Grant :=
  grantRule (dropWaiter (if e.holds x then dropHolder e x else e) x)

/-- The mode agrees with the number of holders (R42, R59). -/
def modeAgrees (e : LockEntry) : Bool :=
  match e.mode with
  | .free => sizeOfSet e.holders == 0
  | .shared => decide (1 ≤ sizeOfSet e.holders)
  | .exclusive => sizeOfSet e.holders == 1

/-- The waiter list is empty or its head cannot be granted (R46). -/
def settled (e : LockEntry) : Bool :=
  match e.waiters with
  | [] => true
  | w :: _ => !grantable e.mode w.mode

/-- No station appears twice among the holders and the waiters of the lock (R42). -/
def noneTwice (e : LockEntry) : Bool :=
  decide ((e.waiters.map (·.station)).Nodup) && e.waiters.all (fun w => !e.holds w.station)

/-- Every holder and every waiter passes a test. -/
def everyParty (p : StationId → Bool) (e : LockEntry) : Bool :=
  allStations.all (fun i => !e.holds i || p i) && e.waiters.all (fun w => p w.station)

/-- The check of a loaded entry against the membership table loaded with it (R59). -/
def loadCheck (members : Vector MemberEntry 16) (e : LockEntry) : Bool :=
  modeAgrees e && noneTwice e && decide (sizeOfSet e.holders + e.waiters.length ≤ 16) &&
    everyParty (fun i => (entryAt members i).status == .active) e && settled e

end Sys2Proof.Machine
end

