-- ==== Sys2Proof/Machine/Tables.lean ====
section
/-! DEFINITION. The Table Engine: the membership table's readings (join queue, donor, member count: R66, R67), the
application of one committed change to both tables with the notices it gives (R47 to R57, R68 to R74), the fresh
table (R58, R69) and the loading of segments (R59, R117). These are functions of the tables alone. -/

namespace Sys2Proof.Machine

/-! ### Readings of the membership table -/

/-- A station's status. -/
def statusIn (ms : Vector MemberEntry 16) (i : StationId) : MemberStatus := (entryAt ms i).status

/-- The set of the ACTIVE stations. -/
def activeSet (ms : Vector MemberEntry 16) : StationSet := stationsWith (fun i => statusIn ms i == .active)

/-- The donor: the lowest-numbered ACTIVE station (R67). -/
def donorOf (ms : Vector MemberEntry 16) : Option StationId :=
  allStations.find? (fun i => statusIn ms i == .active)

/-- The number of ACTIVE entries (R67). -/
def activeCount (ms : Vector MemberEntry 16) : Nat := allStations.countP (fun i => statusIn ms i == .active)

/-- The age of a join epoch at an epoch, modulo 65536 (R66). -/
def ageOf (epoch joinEpoch : Word16) : Nat := (epoch - joinEpoch).toNat

/-- The older of two candidates of the join queue; at equal ages the first stays (R66). -/
def olderOf (ms : Vector MemberEntry 16) (epoch : Word16) (best : Option StationId) (i : StationId) : Option StationId :=
  match best with
  | none => some i
  | some b =>
      if ageOf epoch (entryAt ms b).joinEpoch < ageOf epoch (entryAt ms i).joinEpoch then some i else some b

/-- The oldest JOINING entry among those that pass a test, in join queue order: the larger age first, and the lower
station number between equal ages (R66). -/
def oldestJoining (ms : Vector MemberEntry 16) (epoch : Word16) (p : StationId → Bool) : Option StationId :=
  (allStations.filter (fun i => statusIn ms i == .joining && p i)).foldl (olderOf ms epoch) none

/-! ### Notices -/

/-- An outcome notice to this station's Intent Unit (Table 3-2). -/
inductive LockNotice where
  /-- The outcome of this station's own request frame. -/
  | own (lock : LockId) (outcome : RequestOutcome)
  /-- A grant that the grant rule made to this station as head waiter. -/
  | grant (lock : LockId) (mode : Mode) (token : Word16)
  | selfPurged
  deriving DecidableEq, Repr

/-- The membership notice to the Station Controller (R74). -/
structure MemberNotice where
  kind    : Kind
  station : StationId
  before  : MemberStatus
  after   : MemberStatus
  changed : Bool
  deriving DecidableEq, Repr

/-- What the application of one committed frame leaves: the tables, the lock notices in order, and the membership
notice of a membership frame. -/
structure Application where
  table   : TableEngine
  notices : List LockNotice
  member  : Option MemberNotice
  deriving DecidableEq, Repr

/-- The grants of one lock that go to this station, as notices in their order (R48). -/
def grantNotices (self : StationId) (l : LockId) (gs : List Grant) : List LockNotice :=
  (gs.filter (·.station == self)).map (fun g => .grant l g.mode g.token)

/-! ### Request frames (R47) -/

/-- An application to one lock: the outcome goes to the sender's own station first, then the grants (R48). -/
def applyEntry (self sender : StationId) (t : TableEngine) (l : LockId) (f : LockEntry → Applied) : Application :=
  let a := f (entryAt t.locks l)
  { table := { t with locks := setEntry t.locks l a.entry }
    notices := (if sender = self then [.own l a.outcome] else []) ++ grantNotices self l a.grants
    member := none }

/-- A request frame from a sender that this table does not list as ACTIVE changes nothing and gives no notice; from an
ACTIVE sender it is applied (R47). -/
def applyRequest (self sender : StationId) (t : TableEngine) (l : LockId) (f : LockEntry → Applied) : Application :=
  if statusIn t.members sender = .active then applyEntry self sender t l f
  else { table := t, notices := [], member := none }

/-! ### Purge (R54 to R57) -/

/-- The lock table after the purge of a station. -/
def purgeLocks (x : StationId) (locks : Vector LockEntry 64) : Vector LockEntry 64 :=
  locks.map (fun e => (purgeEntry x e).1)

/-- The notices of the purge: the grants to this station in ascending lock order, and SELF_PURGED at the end where
the purged station is this one (R56, R100). R57 has the purge of a station that holds and waits for nothing give no
notice; the model follows R56, R100 and R155 and gives SELF_PURGED there too (DEDUCED, log 33). -/
def purgeNotices (self x : StationId) (locks : Vector LockEntry 64) : List LockNotice :=
  allLocks.flatMap (fun l => grantNotices self l (purgeEntry x (entryAt locks l)).2) ++
    (if x = self then [.selfPurged] else [])

/-! ### Membership frames (R68) -/

/-- A membership frame about station `x`: the purge where it is due, then the entry, then the notice (R68, R74). -/
def applyMember (self : StationId) (t : TableEngine) (k : Kind) (x : StationId) (purge : Bool) (entry : MemberEntry) :
    Application :=
  let before := entryAt t.members x
  { table :=
      { t with
        locks := if purge then purgeLocks x t.locks else t.locks
        members := setEntry t.members x entry }
    notices := if purge then purgeNotices self x t.locks else []
    member := some
      { kind := k, station := x, before := before.status, after := entry.status, changed := decide (entry ≠ before) } }

/-- JOIN from `x`: the join epoch is the one the commit leaves (R70). -/
def applyJoin (self : StationId) (epochAfter : Word16) (t : TableEngine) (x : StationId) : Application :=
  applyMember self t .join x (statusIn t.members x != .absent) { status := .joining, joinEpoch := epochAfter }

/-- READY from `x` (R71). -/
def applyReady (self : StationId) (t : TableEngine) (x : StationId) : Application :=
  applyMember self t .ready x false
    (if statusIn t.members x = .joining then { status := .active, joinEpoch := 0 } else entryAt t.members x)

/-- LEAVE from `x` (R72). -/
def applyLeave (self : StationId) (t : TableEngine) (x : StationId) : Application :=
  applyMember self t .leave x true .absent

/-- EVICT naming `x` (R73). -/
def applyEvict (self : StationId) (t : TableEngine) (x : StationId) : Application :=
  if statusIn t.members x = .absent then applyMember self t .evict x false (entryAt t.members x)
  else applyMember self t .evict x true .absent

/-- The application of one committed frame that is no GENESIS, at a station whose number is `self` and whose epoch
after the commit is `epochAfter`. -/
def applyChange (self : StationId) (epochAfter : Word16) (sender : StationId) (c : Change) (t : TableEngine) :
    Application :=
  match c with
  | .join => applyJoin self epochAfter t sender
  | .leave => applyLeave self t sender
  | .ready => applyReady self t sender
  | .evict x => applyEvict self t x
  | .acquire l m try_ => applyRequest self sender t l (fun e => acquireEntry e sender m try_)
  | .release l => applyRequest self sender t l (fun e => releaseEntry e sender)
  | .cancel l => applyRequest self sender t l (fun e => cancelEntry e sender)

/-- The fresh table of a founder (R58, R69). -/
def freshTable (founder : StationId) : TableEngine :=
  { validity := .complete
    locks := Vector.replicate 64 LockEntry.fresh
    members := setEntry (Vector.replicate 16 MemberEntry.absent) founder { status := .active, joinEpoch := 0 } }

/-! ### Loading (R59, R116, R117) -/

/-- The membership records of a segment 0 stored, with no lock entry loaded (R40, R117), at a restart too (R120). What the
lock entries hold until their segment is loaded the spec leaves open; the model stores blank ones (DESIGN CHOICE, log
12). -/
def loadMembers (records : Vector MemberEntry 16) : TableEngine :=
  { TableEngine.discarded with validity := .partial_, members := records }

/-- The locks of a lock segment. -/
def firstLock (pair : Fin 32) : LockId := ⟨2 * pair.val, by omega⟩
def secondLock (pair : Fin 32) : LockId := ⟨2 * pair.val + 1, by omega⟩

/-- The two lock entries of a segment stored, where both pass the load check (R59). -/
def loadPair (t : TableEngine) (pair : Fin 32) (first second : LockEntry) : Option TableEngine :=
  if loadCheck t.members first && loadCheck t.members second then
    some { t with locks := setEntry (setEntry t.locks (firstLock pair) first) (secondLock pair) second }
  else none

/-- The checks of R116 that concern the membership records: this station's own record, the sender, and the join
epochs. -/
def recordsCheck (self sender : StationId) (j : Word16) (records : Vector MemberEntry 16) : Bool :=
  decide (entryAt records self = { status := .joining, joinEpoch := j }) &&
    decide (donorOf records = some sender) &&
    allStations.all (fun i => statusIn records i == .joining || (entryAt records i).joinEpoch == 0)

end Sys2Proof.Machine
end

