-- ==== Sys2Proof/Machine/Intents.lean ====
section
/-! DEFINITION. The Intent Unit: outcome notices (R146 to R149, R151), voiding (R154), the lock commands (R142 to
R145), the wait timer (R150) and the ends of its offers (R152, R153). -/

namespace Sys2Proof.Machine

/-! ### Small changes of one intent -/

/-- The lock event of a cancel or a timeout that took effect (R147, R152). -/
def CancelCause.outcome : CancelCause → LockOutcome
  | .host => .cancelled
  | .timeout => .timedOut

/-- An intent becomes IDLE with every field absent, and its wait timer stops (R138, R150). -/
def State.idleIntent (s : State) (l : LockId) : State := (s.setIntent l .idle).setWaitTimer l .stopped

/-- The offer record says that the lock's ACQUIRE is on the wire (R145, R150). -/
def State.acquireOnWire (s : State) (l : LockId) : Bool :=
  match s.intents.offer with
  | some ⟨.acquire k _ _, onWire⟩ => onWire && k == l
  | _ => false

/-- The entry's frame is on the wire, by the offer record (R141). -/
def IntentUnit.entryOnWire (x : IntentUnit) (e : QueueEntry) : Bool :=
  x.offer == some { frame := e.offer, onWire := true }

/-- The request queue without the entries that name a lock; the rest keep their order (R140). A head entry whose frame
is on the wire leaves at its offer's end and not before (R149, R153); no other entry is ever offered (R141). -/
def IntentUnit.queueWithout (x : IntentUnit) (l : LockId) : List QueueEntry :=
  match x.queue with
  | [] => []
  | e :: rest =>
      let kept := rest.filter (fun e => e.lock? != some l)
      if e.lock? != some l || x.entryOnWire e then e :: kept else kept

/-- The frames of a lock given up, each one that is not on the wire: the entries leave the queue, and the offered frame
is withdrawn; a frame on the wire stays (R136, R149). -/
def State.dropFrames (s : State) (l : LockId) : State :=
  (s.setIntents { s.intents with queue := s.intents.queueWithout l }).withdraw (fun f => f.lock? == some l)

/-- An intent ends: it is IDLE, its frames that are not on the wire are withdrawn, and the event is raised (R145, R146,
R147, R149, R150, R152). -/
def State.endIntent (s : State) (l : LockId) (o : LockOutcome) : State :=
  ((s.dropFrames l).idleIntent l).raiseLock l o

/-! ### Outcome notices -/

/-- A GRANTED notice taken: the intent is HELD with the token, its wait timer stops, and the event is raised (R146,
R148, R149, R151). The requested mode, the TRY flag and the wait limit are kept (R138); where they are absent, no
ACQUIRE command was taken, the mode is the one granted, and the other two are free values (log 13). -/
def State.holdIntent (s : State) (l : LockId) (m : Mode) (token : Word16) (overtaken : Bool) : State :=
  let r := s.intent l
  let t := if r.tryFlag.isSome && r.waitLimit.isSome then s else s.nextFree
  ((t.setIntent l
      { state := .held, mode := some m,
        tryFlag := some (r.tryFlag.getD (Config.freeTryFlag s.free)),
        waitLimit := some (r.waitLimit.getD (Config.freeWaitLimit s.free)),
        cause := none, mark := none, token := some token, outstanding := none }).setWaitTimer l .stopped).raiseLock l
    (.granted m token overtaken)

/-- A notice that R146 to R148 do not name for the intent's state: IDLE with a LOST event (R149). -/
def State.strayNotice (s : State) (l : LockId) : State :=
  s.endIntent l .lost

/-- A GRANTED notice by the intent's state (R146, R148, R149, R151). R148 names a WAITING intent
for a grant of the grant rule only, and no rule names it for the GRANTED of the station's own ACQUIRE; the model acts on
that as on a grant of the grant rule, HELD with GRANTED, and does not take it for the other notice of R149, IDLE with LOST
(DESIGN CHOICE, log 36). -/
def State.grantNotice (s : State) (l : LockId) (m : Mode) (token : Word16) : State :=
  let r := s.intent l
  match r.state with
  | .cancelling => (s.withdraw (· == .cancel l)).holdIntent l m token true
  | .requesting => s.holdIntent l m token (s.acquireOnWire l && r.mark.isSome)
  | .waiting | .idle | .held | .releasing => s.holdIntent l m token false

/-- A QUEUED notice (Table 8-3). -/
def State.queuedNotice (s : State) (l : LockId) (m : Mode) (position : Nat) : State :=
  let r := s.intent l
  match r.state, r.mark with
  | .requesting, none => (s.setIntent l { r with state := .waiting }).raiseLock l (.queued m position)
  | .requesting, some cause =>
      s.setIntent l { r with state := .cancelling, cause := some cause, mark := none, outstanding := some .due }
  | _, _ => s.strayNotice l

/-- A DENIED notice (Table 8-3). -/
def State.deniedNotice (s : State) (l : LockId) : State :=
  match (s.intent l).state with
  | .requesting => s.endIntent l .denied
  | _ => s.strayNotice l

/-- A RELEASED notice (R147). -/
def State.releasedNotice (s : State) (l : LockId) : State :=
  match (s.intent l).state with
  | .releasing => s.endIntent l .released
  | _ => s.strayNotice l

/-- A CANCELLED notice: CANCELLED or TIMED_OUT by the cancel cause (R147). -/
def State.cancelledNotice (s : State) (l : LockId) : State :=
  match (s.intent l).state, (s.intent l).cause with
  | .cancelling, some cause => s.endIntent l cause.outcome
  | _, _ => s.strayNotice l

/-- The outcome of an own request frame (R146, R147, R149). -/
def State.ownOutcome (s : State) (l : LockId) : RequestOutcome → State
  | .granted m token => s.grantNotice l m token
  | .queued m position => s.queuedNotice l m position
  | .denied => s.deniedNotice l
  | .released => s.releasedNotice l
  | .cancelled => s.cancelledNotice l
  | .duplicate | .releaseNoop | .cancelVoid => s.strayNotice l

/-! ### Voiding -/

/-- The LOST events of a voiding, in ascending lock order (R154). -/
def State.raiseLosses (s : State) : State :=
  (allLocks.filter (fun l => (s.intent l).state != .idle)).foldl (fun t l => t.raiseLock l .lost) s

/-- The Intent Unit voids its intents: its frame is withdrawn where it is off the wire, each intent that is not IDLE
raises LOST, and intents, queue, timers and offer record are as after nRESET (R154, Table 8-6). -/
def State.voidIntents (s : State) : State :=
  ((s.withdraw (·.source == .intents)).raiseLosses).setIntents .initial

/-- One outcome notice taken by the Intent Unit (R48). -/
def State.takeNotice (s : State) : LockNotice → State
  | .own l o => s.ownOutcome l o
  | .grant l m token => s.grantNotice l m token
  | .selfPurged => s.voidIntents

/-! ### Host lock commands -/

/-- An entry appended to the tail of the request queue (R140). -/
def State.enqueue (s : State) (e : QueueEntry) : State :=
  s.setIntents { s.intents with queue := s.intents.queue ++ [e] }

/-- The request queue holds 8 entries (R140). -/
def State.queueFull (s : State) : Bool := decide (Config.queueCapacity ≤ s.intents.queue.length)

/-- The ACQUIRE command (R143), with the lock and mode bytes as the host sent them. -/
def State.acquireCommand (s : State) (lock mode : Byte) (limit : Word16) : StatusCode × State :=
  if s.ctrl.station ≠ .active then (.wrongState, s)
  else if s.ctrl.leavePending then (.wrongState, s)
  else match lockOf lock, modeOf mode with
    | some l, some (m, try_) =>
        if (s.intent l).state ≠ .idle then (.duplicate, s)
        else if s.queueFull then (.queueFull, s)
        else
          let r : IntentRecord :=
            { IntentRecord.idle with
              state := .requesting, mode := some m, tryFlag := some try_, waitLimit := some limit }
          let t := (s.setIntent l r).enqueue (.acquire l m try_)
          (.ok, if limit = 0 then t else t.setWaitTimer l .running)
    | _, _ => (.range, s)

/-- The RELEASE command (R144). -/
def State.releaseCommand (s : State) (lock : Byte) : StatusCode × State :=
  if s.ctrl.station ≠ .active then (.wrongState, s)
  else match lockOf lock with
    | some l =>
        let r := s.intent l
        if r.state ≠ .held then (.notHolder, s)
        else if s.queueFull then (.queueFull, s)
        else (.ok, (s.setIntent l { r with state := .releasing }).enqueue (.release l))
    | none => (.range, s)

/-- A WAITING intent becomes CANCELLING with its CANCEL due; the wait timer is left as it is (R145, R150). -/
def State.startCancel (s : State) (l : LockId) (cause : CancelCause) : State :=
  s.setIntent l { s.intent l with state := .cancelling, cause := some cause, outstanding := some .due }

/-- A request given up before its ACQUIRE is on the wire, or after the offer that carried a mark: the frame is
withdrawn, the entry leaves the queue, the intent is IDLE, and the event is raised (R145, R150, R152). -/
def State.giveUpRequest (s : State) (l : LockId) (cause : CancelCause) : State :=
  s.endIntent l cause.outcome

/-- The cancel-after mark set (R145, R150). -/
def State.markIntent (s : State) (l : LockId) (cause : CancelCause) : State :=
  s.setIntent l { s.intent l with mark := some cause }

/-- The CANCEL command (R145, Table 8-2). -/
def State.cancelCommand (s : State) (lock : Byte) : StatusCode × State :=
  if s.ctrl.station ≠ .active then (.wrongState, s)
  else match lockOf lock with
    | none => (.range, s)
    | some l =>
        match (s.intent l).state with
        | .waiting => (.ok, s.startCancel l .host)
        | .requesting =>
            if s.acquireOnWire l then
              if (s.intent l).mark.isSome then (.notWaiting, s) else (.ok, s.markIntent l .host)
            else (.ok, s.giveUpRequest l .host)
        | .idle | .held | .releasing | .cancelling => (.notWaiting, s)

/-! ### The wait timer (R150, Table 8-4) -/

/-- A wait timer stops at its expiry, and the Intent Unit acts by the intent's state. -/
def State.waitExpired (s : State) (l : LockId) : State :=
  let t := s.setWaitTimer l .stopped
  match (s.intent l).state with
  | .requesting =>
      if s.acquireOnWire l then
        if (s.intent l).mark.isSome then t else t.markIntent l .timeout
      else t.giveUpRequest l .timeout
  | .waiting => t.startCancel l .timeout
  | .cancelling | .idle | .held | .releasing => t

/-! ### Offers (R141, R152, R153) -/

/-- How an offer ended (Table 7-2). -/
inductive OfferEnd where
  | lost
  | retry
  | passed
  | dropped
  deriving DecidableEq, Repr

/-- The place of an outstanding CANCEL follows its frame (R138, R141). -/
def State.placeCancel (s : State) (l : LockId) (p : CancelPlace) : State :=
  let r := s.intent l
  if r.outstanding.isSome then s.setIntent l { r with outstanding := some p } else s

/-- The outstanding CANCEL of a lock cleared (R153). -/
def State.clearCancel (s : State) (l : LockId) : State :=
  s.setIntent l { s.intent l with outstanding := none }

/-- The offer record, and the CANCEL's own place, set for a frame of the Intent Unit (R141). -/
def State.recordOffer (s : State) (f : Offered) (onWire : Bool) : State :=
  let t := s.setIntents { s.intents with offer := some { frame := f, onWire } }
  match f with
  | .cancel l => t.placeCancel l (if onWire then .onWire else .placed)
  | _ => t

/-- The end LOST or RETRY of an offer of the Intent Unit's (R152, Table 8-5). The frame is off the wire. -/
def State.intentOfferKept (s : State) (f : Offered) : State :=
  let t := s.recordOffer f false
  match f with
  | .acquire l _ _ =>
      match (s.intent l).state, (s.intent l).mark with
      | .requesting, some cause => t.giveUpRequest l cause
      | _, _ => t
  | .cancel l =>
      if (s.intent l).state = .cancelling then t
      else (t.withdraw (· == .cancel l)).clearCancel l
  | _ => t

/-- The end PASSED of an offer of the Intent Unit's: its entry, or its outstanding CANCEL, is gone (R153). -/
def State.intentOfferPassed (s : State) (f : Offered) : State :=
  let t := s.forgetOffer
  match f with
  | .acquire l m try_ => t.setIntents { t.intents with queue := t.intents.queue.erase (.acquire l m try_) }
  | .release l => t.setIntents { t.intents with queue := t.intents.queue.erase (.release l) }
  | .leave => t.setIntents { t.intents with queue := t.intents.queue.erase .leave }
  | .cancel l => t.clearCancel l
  | .join | .genesis | .ready | .evict _ | .segment _ _ _ _ | .presence => t

/-- The end of an offer of the Intent Unit's (Table 8-5). After DROPPED the voiding follows. -/
def State.intentOfferEnd (s : State) (f : Offered) : OfferEnd → State
  | .lost | .retry => s.intentOfferKept f
  | .passed => s.intentOfferPassed f
  | .dropped => s.forgetOffer

end Sys2Proof.Machine
end

