-- ==== Sys2Proof/Machine/Controller.lean ====
section
/-! DEFINITION. The Station Controller: departures and returns to SEEKING (R34, R37, R96, R97, R99 to R102), becoming
ACTIVE (R95), heard notices (R77, R79, R87, R91), membership notices (R74), another station's GENESIS (R92), the ends
of its offers (R85, R89, R90, R94) and its timers (R75, R78, R88, R89). -/

namespace Sys2Proof.Machine

/-! ### Parts of a departure -/

/-- Every timer of the Station Controller stopped, and a held expiry discarded (R83, R89). -/
def Controller.stopTimers (c : Controller) : Controller :=
  { c with firstContact := .stopped, joinDeadline := .stopped, deadlineHeld := false, presence := .stopped,
           silence := Vector.replicate 16 .stopped }

/-- No control frame pending (R83). -/
def Controller.clearPending (c : Controller) : Controller :=
  { c with control := none, evicts := 0, presencePending := false }

/-- The pending control frames cleared, and the offered one withdrawn where it is off the wire (R83, R136). -/
def State.dropControl (s : State) : State :=
  let t := s.withdraw (·.source == .controller)
  t.setCtrl t.ctrl.clearPending

/-- The table discarded (R60) and the epoch "none" (R27). -/
def State.discardTable (s : State) : State :=
  (s.setTable .discarded).setCommit { s.commit with epoch := none }

/-- Any donor transfer and any reception dropped, the served set emptied, the log closed and emptied (R109, R110). -/
def State.dropTransfers (s : State) : State :=
  (s.withdraw (·.source == .transfer)).setTransfer .initial

/-- The catch-up log closed and emptied, with any reception dropped (R110). -/
def TransferUnit.closeLog (t : TransferUnit) : TransferUnit :=
  { t with phase := .closed, log := [], discards := 0, current := none }

/-- The catch-up log closed at the order of the Station Controller; a reception dropped by it leaves the table
validity NONE (R110). -/
def State.closeLog (s : State) : State :=
  let t := s.setTransfer s.transfer.closeLog
  if s.transfer.phase = .loading then t.setTable .discarded else t

/-- The yield flag and the yield wait cleared by a departure (R137). -/
def State.clearYield (s : State) : State := s.setSel s.sel.clearYield

/-- The own frame aborted by its transmit phase (R13). In its slots it goes on as plain 1 cells until the idle. R13 gives
ENDING no move; the model leaves that phase as it is until the idle, as R10 has it (DEDUCED, log 32). -/
def LineUnit.abort (u : LineUnit) : LineUnit :=
  match u.tx with
  | .contending | .sending | .idle => { u with tx := .idle, fixed := none }
  | .slots | .ending => { u with aborted := true, fixed := none }

/-- A station that becomes DETACHED or enters FAULT outside a delivery drives no slot from then on (R19): the drive record
empties (log 17). Within a delivery the record is already empty. -/
def State.driveNothing (s : State) : State := s.setCommit { s.commit with drive := .empty }

/-- DETACH and entry into FAULT: the own frame is aborted and taken off offer, and this station drives no further
slot (R13, R19, R137). -/
def State.abortFrame (s : State) : State := ((s.setLine s.line.abort).setSel .initial).driveNothing

/-- SEEKING with JOIN pending. -/
def Controller.seek (c : Controller) : Controller := { c with station := .seeking, control := some .join }

/-! ### Departures -/

/-- Entry into FAULT (R34, R102). -/
def State.enterFault (s : State) (cause : FaultCause) : State :=
  let t := (s.abortFrame.voidIntents).dropTransfers.discardTable
  let c := t.ctrl.stopTimers.clearPending
  ((t.setCommit { t.commit with lastFault := cause }).setCtrl
    { c with station := .fault, leavePending := false, contact := false }).raiseStation (.fault cause)

/-- The DETACH command in a state other than DETACHED (R101). -/
def State.detach (s : State) : State :=
  let t := (s.abortFrame.voidIntents).dropTransfers.discardTable
  let c := t.ctrl.stopTimers.clearPending
  (t.setCommit { t.commit with failures := 0 }).setCtrl
    { c with station := .detached, leavePending := false, contact := false, attempts := 0 }

/-- Falling out of step (R37, Table 2-5). -/
def State.fallOutOfStep (s : State) : State :=
  let t := (s.voidIntents.dropTransfers.dropControl.discardTable).clearYield
  ((t.setCommit { t.commit with failures := 0 }).setCtrl
    { t.ctrl.stopTimers.seek with leavePending := false, attempts := 1 }).raiseStation .outOfStep

/-- The station's own departure after its own LEAVE commit, or its own eviction with leave-pending set (R99, R100). -/
def State.depart (s : State) : State :=
  let t := (s.dropTransfers.dropControl.discardTable).clearYield
  (t.setCtrl { t.ctrl.stopTimers with station := .detached, leavePending := false, attempts := 0 }).raiseStation .left

/-- The own eviction of an ACTIVE station with leave-pending clear (R100, Table 5-3). -/
def State.evictedActive (s : State) : State :=
  let t := (s.dropTransfers.dropControl.discardTable).clearYield
  (t.setCtrl { t.ctrl.stopTimers.seek with attempts := 1 }).raiseStation .evicted

/-- A join given up at a count of 4 (R97). The station is DETACHED, also where the join deadline expires between a CRC
hand-off and the slots, and drives none of them (R19). -/
def State.giveUpJoin (s : State) : State :=
  let t := s.dropControl.closeLog.discardTable.driveNothing
  (t.setCtrl { t.ctrl.stopTimers with station := .detached, contact := false, leavePending := false }).raiseStation
    .joinFailed

/-- JOIN re-queued with an added attempt, or given up at a count of 4 (R96, R97). -/
def State.requeueJoin (s : State) : State :=
  if Config.attemptLimit ≤ s.ctrl.attempts then s.giveUpJoin
  else
    let t := s.dropControl.closeLog.discardTable
    t.setCtrl
      { t.ctrl.seek with
        firstContact := .stopped, joinDeadline := .stopped, deadlineHeld := false, contact := false,
        attempts := t.ctrl.attempts + 1 }

/-- The station's own eviction by its state (R100, Table 5-3). -/
def State.ownEviction (s : State) : State :=
  match s.ctrl.station with
  | .active => if s.ctrl.leavePending then s.depart else s.evictedActive
  | .seeking | .receiving | .synced => s.requeueJoin
  | .detached | .founding | .fault => s

/-! ### Becoming ACTIVE -/

/-- The silence timers of a station that becomes ACTIVE: one for every ACTIVE or JOINING peer (R77, R81). -/
def startedSilence (self : StationId) (ms : Vector MemberEntry 16) : Vector Timer 16 :=
  Vector.ofFn (fun i => if i ≠ self ∧ statusIn ms i ≠ .absent then .running else .stopped)

/-- The membership notice of the own GENESIS or the own READY (R95). -/
def State.becomeActive (s : State) : State :=
  (s.setCtrl
    { s.ctrl.stopTimers with
      station := .active, control := none, attempts := 0, presence := .running,
      silence := startedSilence s.ctrl.id s.table.members }).raiseStation .joined

/-- MEMBERS_CHANGED with the stations ACTIVE after the application (R74). -/
def State.raiseMembersChanged (s : State) : State :=
  s.raiseStation (.membersChanged (activeSet s.table.members))

/-! ### Heard notices (R28) -/

/-- The kinds that show a group to exist: epoch-bearing, or SNAPSHOT (R87). -/
def showsGroup (k : Kind) : Bool := epochBearing k || k == .snapshot

/-- A founder returns to SEEKING with JOIN pending, keeping its join-attempt count (R90, R91). -/
def State.abandonFounding (s : State) : State :=
  let t := s.withdraw (· == .genesis)
  t.setCtrl t.ctrl.seek

/-- A peer's silence timer set. -/
def State.setSilence (s : State) (x : StationId) (t : Timer) : State :=
  s.setCtrl { s.ctrl with silence := setEntry s.ctrl.silence x t }

/-- A pending EVICT withdrawn, where it is not on the wire (R79, R136). -/
def State.withdrawEvict (s : State) (x : StationId) : State :=
  if s.isOnWire (.evict x) then s
  else
    let t := s.withdraw (· == .evict x)
    t.setCtrl { t.ctrl with evicts := takeFrom t.ctrl.evicts x }

/-- A heard notice at an ACTIVE station: the sender's silence timer restarts, where the station keeps one for it, and
a pending EVICT naming the sender is withdrawn (R77, R79). -/
def State.heardActive (s : State) (x : StationId) : State :=
  let t := s.withdrawEvict x
  if x ≠ s.ctrl.id ∧ statusIn s.table.members x ≠ .absent then t.setSilence x .running else t

/-- A heard notice of a frame from `x`, by the station state (R77, R79, R85, R87, R91). -/
def State.heard (s : State) (x : StationId) (k : Kind) : State :=
  match s.ctrl.station with
  | .active => s.heardActive x
  | .seeking =>
      if s.ctrl.control = none && showsGroup k then s.setCtrl { s.ctrl with contact := true } else s
  | .founding => if showsGroup k then s.abandonFounding else s
  | .detached | .receiving | .synced | .fault => s

/-! ### Membership notices (R74) -/

/-- The silence timer and the pending EVICT of the station a notice concerns, at an ACTIVE station (R74, R77, R79). -/
def State.peerNotice (s : State) (n : MemberNotice) : State :=
  if n.after = .absent then (s.withdrawEvict n.station).setSilence n.station .stopped
  else if n.kind = .join then (s.withdrawEvict n.station).setSilence n.station .running
  else if n.before ≠ n.after then s.setSilence n.station .running
  else s

/-- A notice about this station's own entry, at an ACTIVE station (R99, R100). -/
def State.ownNotice (s : State) (n : MemberNotice) : State :=
  match n.kind with
  | .leave => s.depart
  | .evict => s.ownEviction
  | _ => s

/-- The membership notice that ends the application of a membership frame (R74, R95, R100). -/
def State.memberNotice (s : State) (n : MemberNotice) : State :=
  match s.ctrl.station with
  | .active =>
      let t := if n.station = s.ctrl.id then s.ownNotice n else s.peerNotice n
      if n.changed && t.ctrl.station == .active then t.raiseMembersChanged else t
  | .synced =>
      if n.station = s.ctrl.id then
        match n.kind with
        | .ready => if n.after = .active then s.becomeActive.raiseMembersChanged else s
        | .evict => s.ownEviction
        | _ => s
      else s
  | .detached | .seeking | .founding | .receiving | .fault => s

/-! ### GENESIS -/

/-- The own GENESIS committed: the fresh table, epoch 1, ACTIVE, JOINED and MEMBERS_CHANGED (R30, R58, R69, R95). -/
def State.ownGenesis (s : State) : State :=
  let t := (s.setTable (freshTable s.ctrl.id)).setCommit { s.commit with epoch := some 1 }
  t.becomeActive.raiseMembersChanged

/-- A joiner's return to SEEKING at another station's GENESIS: its join timers stop, its log is closed, and JOIN is
pending, with no attempt added (R92). -/
def State.rejoinNewGroup (s : State) : State :=
  let t := s.closeLog
  t.setCtrl
    { t.ctrl.seek with
      firstContact := .stopped, joinDeadline := .stopped, deadlineHeld := false, contact := false }

/-- Another station's GENESIS commit by the station state (Table 5-2). SYNCED falls out of step at step 6 of the
delivery (R36). -/
def State.otherGenesis (s : State) : State :=
  match s.ctrl.station with
  | .seeking => if s.ctrl.control = some .join then s else s.rejoinNewGroup
  | .founding => s.abandonFounding
  | .receiving => s.rejoinNewGroup
  | .synced | .active | .detached | .fault => s

/-! ### Offers -/

/-- The own JOIN reported PASSED (R86). -/
def State.joinPassed (s : State) : State :=
  (s.setCtrl { s.ctrl with
      control := none, contact := false, firstContact := .running, joinDeadline := .running }).setTransfer
    { s.transfer with phase := .listening, log := [], discards := 0, current := none }

/-- A held expiry of the join deadline taking effect when the READY's offer ends without a commit (R89). -/
def State.readyKept (s : State) : State := if s.ctrl.deadlineHeld then s.requeueJoin else s

/-- The end of an offer of the Station Controller's (R78, R85, R89, R90, R94). A dissented GENESIS has its own rule
(R90); after every other DROPPED the station falls out of step or enters FAULT. -/
def State.controlOfferEnd (s : State) (f : Offered) (r : OfferEnd) : State :=
  match f, r with
  | .join, .passed => s.joinPassed
  | .genesis, .passed =>
      s.setCtrl { s.ctrl with control := if s.ctrl.control = some .genesis then none else s.ctrl.control }
  | .ready, .passed =>
      s.setCtrl
        { s.ctrl with
          deadlineHeld := false, control := if s.ctrl.control = some .ready then none else s.ctrl.control }
  | .ready, .lost => s.readyKept
  | .ready, .retry => s.readyKept
  | .evict x, .passed => s.setCtrl { s.ctrl with evicts := takeFrom s.ctrl.evicts x }
  | .evict x, .dropped => s.setCtrl { s.ctrl with evicts := takeFrom s.ctrl.evicts x }
  | .presence, .passed => s.setCtrl { s.ctrl with presencePending := false }
  | _, _ => s

/-- Every PASSED report at the Station Controller: while ACTIVE, the presence timer restarts and a pending PRESENCE
off the wire is withdrawn (R75, R76, R135). -/
def State.passedAtController (s : State) : State :=
  if s.ctrl.station = .active then
    let t := s.setCtrl { s.ctrl with presence := .running }
    if t.isOnWire .presence then t
    else
      let u := t.withdraw (· == .presence)
      u.setCtrl { u.ctrl with presencePending := false }
  else s

/-! ### Timers -/

/-- The presence timer expires (R75). -/
def State.presenceExpired (s : State) : State :=
  s.setCtrl { s.ctrl with presence := .expired, presencePending := true }

/-- A peer's silence timer reaches its limit (R78). -/
def State.silenceExpired (s : State) (x : StationId) : State :=
  let t := s.setSilence x .stopped
  t.setCtrl { t.ctrl with evicts := addTo t.ctrl.evicts x }

/-- The first-contact timer expires (R88). -/
def State.firstContactExpired (s : State) : State :=
  if s.ctrl.contact then s.setCtrl { s.ctrl with firstContact := .stopped }
  else
    let t := s.closeLog
    t.setCtrl
      { t.ctrl with
        firstContact := .stopped, joinDeadline := .stopped, deadlineHeld := false,
        station := .founding, control := some .genesis }

/-- The join deadline expires; the expiry is held while an own READY is on the wire (R89). -/
def State.joinDeadlineExpired (s : State) : State :=
  if s.isOnWire .ready then s.setCtrl { s.ctrl with joinDeadline := .stopped, deadlineHeld := true }
  else s.requeueJoin

end Sys2Proof.Machine
end

