-- ==== Sys2Proof/Machine/Apply.lean ====
section
/-! DEFINITION. The application of one committed frame at a station with a COMPLETE table: the Table Engine's change,
its notices to the Intent Unit and to the Station Controller, and the epoch (R26, R36 step 3, R47, R68). -/

namespace Sys2Proof.Machine

/-- The epoch a commit leaves, modulo 65536 (R26). -/
def State.epochAfter (s : State) : Word16 := s.epochValue + 1

/-- The notices of an application, in order (R48, R68). -/
def State.takeNotices (s : State) (ns : List LockNotice) : State := ns.foldl State.takeNotice s

/-- The epoch raised by one, where it is numeric; a station that the commit made depart keeps "none" (R26, R27). -/
def State.countCommit (s : State) : State :=
  s.setCommit { s.commit with epoch := s.commit.epoch.map (· + 1) }

/-- A committed frame other than GENESIS applied whole (R26, R47, R68). -/
def State.applyCommit (s : State) (sender : StationId) (c : Change) : State :=
  let a := applyChange s.ctrl.id s.epochAfter sender c s.table
  let t := (s.setTable a.table).takeNotices a.notices
  let u := match a.member with
    | some n => t.memberNotice n
    | none => t
  u.countCommit

end Sys2Proof.Machine
end

