-- ==== Sys2Proof/Machine/Transfers.lean ====
section
/-! DEFINITION. The Transfer Unit. Donor side: the evaluation, the capture, the segments and the served set (R103 to
R109). Joiner side: the catch-up log (R110 to R114), the segments (R115 to R120) and the replay (R121). -/

namespace Sys2Proof.Machine

/-! ### Donor side -/

/-- The segment of an image with a given index (R105). -/
def Image.segment (img : Image) (i : Fin 33) : Segment :=
  if h : 1 ≤ i.val then
    let pair : Fin 32 := ⟨i.val - 1, by omega⟩
    .locks pair (entryAt img.locks (firstLock pair)) (entryAt img.locks (secondLock pair))
  else .members img.members

/-- The segment that the donor side makes available (R106). -/
def TransferUnit.offer (t : TransferUnit) : Option Offered :=
  match t.donorPhase, t.image with
  | .serving, some img => some (.segment img.target img.e img.j (img.segment t.nextSegment))
  | _, _ => none

/-- A served pair still stands in the table as JOINING with its join epoch (R107). -/
def stillServed (ms : Vector MemberEntry 16) (x : Served) : Bool :=
  decide (entryAt ms x.station = { status := .joining, joinEpoch := x.joinEpoch })

/-- The served set brought up to date (R107). -/
def State.pruneServed (s : State) : State :=
  s.setTransfer { s.transfer with served := s.transfer.served.filter (stillServed s.table.members) }

/-- The abandonment test of a transfer in progress (R108). -/
def State.mustAbandon (s : State) (img : Image) : Bool :=
  decide (entryAt s.table.members img.target ≠ { status := .joining, joinEpoch := img.j }) ||
    decide (donorOf s.table.members ≠ some s.ctrl.id)

/-- A transfer abandoned: its segment is taken off offer, the image is freed, the phase is FREE (R108). -/
def State.abandonTransfer (s : State) : State :=
  let t := s.withdraw (·.source == .transfer)
  t.setTransfer { t.transfer with donorPhase := .free, image := none }

/-- The abandonment test applied (R108). -/
def State.testTransfer (s : State) : State :=
  match s.transfer.donorPhase, s.transfer.image with
  | .serving, some img => if s.mustAbandon img then s.abandonTransfer else s
  | _, _ => s

/-- The joiner that a start would serve: the oldest JOINING entry whose pair is not in the served set (R103, R104). -/
def State.nextJoiner (s : State) : Option StationId :=
  oldestJoining s.table.members s.epochValue
    (fun i => !s.transfer.served.contains ⟨i, (entryAt s.table.members i).joinEpoch⟩)

/-- An image captured for a joiner (R104). -/
def State.capture (s : State) (x : StationId) : State :=
  s.setTransfer
    { s.transfer with
      donorPhase := .serving, nextSegment := 0,
      image := some
        { members := s.table.members, locks := s.table.locks, e := s.epochValue, target := x,
          j := (entryAt s.table.members x).joinEpoch } }

/-- A transfer started where every condition of R103 holds. -/
def State.startTransfer (s : State) : State :=
  if s.ctrl.station = .active ∧ donorOf s.table.members = some s.ctrl.id ∧ s.transfer.donorPhase = .free then
    match s.nextJoiner with
    | some x => s.capture x
    | none => s
  else s

/-- The donor side's evaluation (R103). -/
def State.evaluateDonor (s : State) : State := s.pruneServed.testTransfer.startTransfer

/-- The own segment accepted (R106); after segment 32 the transfer is complete and the evaluation follows (R107). -/
def State.segmentAccepted (s : State) : State :=
  match s.transfer.donorPhase, s.transfer.image with
  | .serving, some img =>
      if h : s.transfer.nextSegment.val < 32 then
        s.setTransfer { s.transfer with nextSegment := ⟨s.transfer.nextSegment.val + 1, by omega⟩ }
      else
        (s.setTransfer
          { s.transfer with
            donorPhase := .free, image := none,
            served := if s.transfer.served.contains ⟨img.target, img.j⟩ then s.transfer.served
                      else s.transfer.served ++ [⟨img.target, img.j⟩] }).evaluateDonor
  | _, _ => s

/-! ### The catch-up log -/

/-- An appended record changes the donor of the group (R119). -/
def changesDonor (donor : StationId) (r : LogRecord) : Bool :=
  match r.change with
  | .leave => r.sender == donor
  | .evict x => x == donor
  | .join => r.sender == donor
  | .ready => decide (r.sender < donor)
  | .acquire _ _ _ | .release _ | .cancel _ => false

/-- A reception dropped: validity NONE, LISTENING, with the log and the discard count kept (R119). -/
def State.dropReception (s : State) : State :=
  (s.setTable .discarded).setTransfer { s.transfer with phase := .listening, current := none }

/-- A record appended, and the reception dropped where it changes the donor (R111, R119, R123). -/
def State.appendRecord (s : State) (r : LogRecord) : State :=
  let t := s.setTransfer { s.transfer with log := s.transfer.log ++ [r] }
  match s.transfer.phase, s.transfer.current with
  | .loading, some cur => if changesDonor cur.donor r then t.dropReception else t
  | _, _ => t

/-- A committed frame that reaches the joiner side: the own eviction first, then the overflow, else the record (R111,
R112, R114, R123). -/
def State.logCommit (s : State) (r : LogRecord) : State :=
  if s.transfer.phase = .closed then s
  else if r.change = .evict s.ctrl.id then s.ownEviction
  else if Config.logCapacity ≤ s.transfer.log.length then s.requeueJoin
  else s.appendRecord r

/-- A log gap (R32, R113). -/
def State.logGap (s : State) : State := if s.transfer.phase = .closed then s else s.requeueJoin

/-! ### Receiving a transfer -/

/-- The range check of R116 on the log: the number of commits between J and E. -/
def TransferUnit.covers (t : TransferUnit) (e j : Word16) : Bool :=
  decide (t.discards ≤ (e - j).toNat) && decide ((e - j).toNat ≤ t.discards + t.log.length)

/-- Reception started: a SEEKING station becomes RECEIVING (R93). -/
def Controller.receptionStarted (c : Controller) : Controller :=
  match c.station with
  | .seeking => { c with station := .receiving, firstContact := .stopped, contact := false }
  | _ => c

/-- A segment 0 addressed to this station, in LISTENING or LOADING (R116, R117, R120). -/
def State.loadSegment0 (s : State) (sender : StationId) (e j : Word16) (records : Vector MemberEntry 16) : State :=
  let n := (e - j).toNat
  if recordsCheck s.ctrl.id sender j records && s.transfer.covers e j then
    ((s.setTable (loadMembers records)).setTransfer
      { s.transfer with
        phase := .loading, log := s.transfer.log.drop (n - s.transfer.discards), discards := n,
        current := some { donor := sender, e, j, expected := 1 } }).setCtrl s.ctrl.receptionStarted
  else (s.setTable .discarded).requeueJoin

/-- The records of the log applied in order (R121). -/
def State.replay (s : State) (log : List LogRecord) : State :=
  log.foldl (fun t r => t.applyCommit r.sender r.change) s

/-- The reception complete (R121). -/
def State.completeReception (s : State) (e : Word16) : State :=
  let t := (s.setTable { s.table with validity := .complete }).setCommit { s.commit with epoch := some e }
  let u := t.replay s.transfer.log
  (u.setTransfer u.transfer.closeLog).setCtrl { u.ctrl with station := .synced, control := some .ready }

/-- A lock segment of the current transfer with the expected index (R118). -/
def State.loadLocks (s : State) (cur : Transfer) (pair : Fin 32) (first second : LockEntry) : State :=
  match loadPair s.table pair first second with
  | some t =>
      let u := s.setTable t
      if pair.val + 1 < 32 then
        u.setTransfer { s.transfer with current := some { cur with expected := cur.expected + 1 } }
      else u.completeReception cur.e
  | none => (s.setTable .discarded).requeueJoin

/-- A lock segment in LOADING: loaded where it is the expected one of the current transfer, else ignored (R115). -/
def State.lockSegment (s : State) (sender : StationId) (e j : Word16) (pair : Fin 32) (first second : LockEntry) :
    State :=
  match s.transfer.current with
  | some cur =>
      if cur.donor = sender ∧ cur.e = e ∧ cur.j = j ∧ cur.expected = pair.val + 1 then
        s.loadLocks cur pair first second
      else s
  | none => s

/-- An accepted SNAPSHOT whose target is this station, at the joiner side (Table 6-1). -/
def State.takeSegment (s : State) (sender : StationId) (e j : Word16) (seg : Segment) : State :=
  match s.transfer.phase, seg with
  | .closed, _ => s
  | .listening, .members records => s.loadSegment0 sender e j records
  | .listening, .locks _ _ _ => s
  | .loading, .members records => s.loadSegment0 sender e j records
  | .loading, .locks pair first second => s.lockSegment sender e j pair first second

end Sys2Proof.Machine
end

