-- ==== Sys2Proof/Machine/Transmitter.lean ====
section
/-! DEFINITION. The Transmit Selector: the order of sources (R127, R128), the yield rule (R130, R131), the choice
(R126), the start of an offer at an SOF (R5, R10, R133) and its end (R134, R135). -/

namespace Sys2Proof.Machine

/-! ### The order of sources (Table 7-1) -/

/-- Place 1: the pending JOIN, GENESIS or READY. -/
def State.controlFrame (s : State) : Option Offered := s.ctrl.control.map Control.offer

/-- Place 2: the pending EVICT with the lowest target. -/
def State.evictFrame (s : State) : Option Offered := (lowestOf s.ctrl.evicts).map Offered.evict

/-- Place 4: the pending PRESENCE. -/
def State.presenceFrame (s : State) : Option Offered := if s.ctrl.presencePending then some .presence else none

/-- Place 5: the cancel-due intent of the lowest lock. -/
def State.cancelFrame (s : State) : Option Offered :=
  (allLocks.find? (fun l => (s.intent l).outstanding == some .due)).map Offered.cancel

/-- Place 6: the head entry of the request queue. -/
def State.queueFrame (s : State) : Option Offered := s.intents.queue.head?.map QueueEntry.offer

/-- A frame that the yield flag holds back: one of the request class (R131). -/
def State.heldBack (s : State) (f : Offered) : Bool := s.sel.yieldFlag && requestClass f.kind

/-- A place's frame, passed over where the yield flag holds it back (R131). -/
def State.unlessHeld (s : State) (f : Option Offered) : Option Offered := f.filter (fun f => !s.heldBack f)

/-- The first frame available in the order of sources (R127). -/
def State.firstAvailable (s : State) : Option Offered :=
  s.controlFrame <|> s.evictFrame <|> s.transfer.offer <|> s.presenceFrame <|>
    s.unlessHeld s.cancelFrame <|> s.unlessHeld s.queueFrame

/-- A frame is available, and every one available is held back (R131). -/
def State.onlyHeldBack (s : State) : Bool :=
  s.firstAvailable.isNone && (s.cancelFrame.isSome || s.queueFrame.isSome)

/-! ### Placing and starting -/

/-- A frame placed on offer (R125). -/
def State.placeFrame (s : State) (f : Offered) : State :=
  let t := s.setSel { s.sel with offered := some f, onWire := false }
  if f.source = .intents then t.recordOffer f false else t

/-- A bus start at the selector: the yield flag clears and the yield wait stops (R130, R131). -/
def State.busStarts (s : State) : State := s.setSel s.sel.clearYield

/-- The station drives SOF for its offered frame: the frame is fixed with the epoch as it stands (R10), the bit-fault
mark clears (R12), the on-wire mark is set, and the source is told (R133). Its SOF is a bus start (R5). -/
def State.driveSof (s : State) : State :=
  match s.sel.offered with
  | none => s
  | some f =>
      let u := s.setLine
        { s.line with
          tx := .contending, aborted := false, fixed := some { sender := s.ctrl.id, content := f.content s.epochValue },
          bitFault := false, rx := .body, reception := .following, assembly := .empty, dominant := 0 }
      let t := (u.setSel { u.sel with onWire := true }).busStarts
      if f.source = .intents then t.recordOffer f true else t

/-- A choice (R126): the first frame available is placed and goes on the wire; where only held-back frames are
available, the yield wait starts (R131). R131 ends the wait at an SOF or at its expiry, and does not say whether it ends too
when its only held-back request is cancelled or times out; where nothing is available the model leaves the wait as it is,
so that it runs on to its end (DESIGN CHOICE, log 38). -/
def State.choice (s : State) : State :=
  match s.firstAvailable with
  | some f => (s.placeFrame f).driveSof
  | none => if s.onlyHeldBack then s.setSel { s.sel with yieldWait := .running } else s

/-- The selector makes a choice where the line is idle and it holds no offered frame (R126). -/
def State.choose (s : State) : State :=
  if s.line.rx = .quiet ∧ s.sel.offered = none then s.choice else s

/-- The line has become idle: an offered frame goes on the wire, and without one the selector chooses (R5, R126). -/
def State.offerAtIdle (s : State) : State :=
  match s.sel.offered with
  | some _ => s.driveSof
  | none => s.choice

/-! ### Ends of offers -/

/-- The end of the offer at its source (R134, R135). A report on a segment changes nothing at the Transfer Unit
(R106). -/
def State.reportEnd (s : State) (f : Offered) (r : OfferEnd) : State :=
  match f.source with
  | .controller => s.controlOfferEnd f r
  | .transfer => s
  | .intents => s.intentOfferEnd f r

/-- An offer ended LOST or RETRY: the frame stays offered, off the wire (R134, R135). -/
def State.endKept (s : State) (f : Offered) (r : OfferEnd) : State :=
  (s.setSel { s.sel with onWire := false }).reportEnd f r

/-- An offer ended PASSED: the frame is no longer offered, the yield flag is set for the request class, and the source
and the Station Controller are told (R130, R135). -/
def State.endPassed (s : State) (f : Offered) : State :=
  let t := s.setSel s.sel.removeOffer
  let u := if requestClass f.kind then t.setSel { t.sel with yieldFlag := true } else t
  (u.reportEnd f .passed).passedAtController

/-- An offer ended DROPPED: the frame is no longer offered (R135). -/
def State.endDropped (s : State) (f : Offered) : State := (s.setSel s.sel.removeOffer).reportEnd f .dropped

/-- The end of the offer of the frame on the wire (Table 7-2). -/
def State.endOffer (s : State) (r : OfferEnd) : State :=
  match s.sel.offered with
  | none => s
  | some f =>
      match r with
      | .lost => s.endKept f .lost
      | .retry => s.endKept f .retry
      | .passed => s.endPassed f
      | .dropped => s.endDropped f

end Sys2Proof.Machine
end

