-- ==== Sys2Proof/Machine/Delivery.lean ====
section
/-! DEFINITION. The Commit Unit: the slots this station drives (R19 to R21), the outcome of a delivered frame (R22),
and the six steps of one delivery (R23 to R37). -/

namespace Sys2Proof.Machine

/-! ### Slots driven -/

/-- The check of R20 on an epoch-bearing frame at an ACTIVE station: the epoch, and the sender's status. -/
def State.epochCheck (s : State) (sender : StationId) (c : Content) : Bool :=
  decide (c.epoch? = s.commit.epoch) &&
    (if c.kind = .ready then statusIn s.table.members sender == .joining
     else statusIn s.table.members sender == .active)

/-- The slots an ACTIVE station drives for another station's frame without a format fault (Table 2-1). -/
def State.activeDrive (s : State) (sender : StationId) (c : Content) : DriveRecord :=
  if epochBearing c.kind then
    { reject := false, agree := s.epochCheck sender c, dissent := !s.epochCheck sender c }
  else { DriveRecord.empty with dissent := c.kind == .genesis }

/-- The slots driven for a frame this station did not send (Table 2-1); `content` is none with a format fault. -/
def State.driveFor (s : State) (sender : StationId) (content : Option Content) : DriveRecord :=
  if s.ctrl.station.silent then .empty
  else
    match content with
    | none => { DriveRecord.empty with reject := true }
    | some c => if s.ctrl.station = .active then s.activeDrive sender c else .empty

/-- The drive record of the sender of a frame (R21). -/
def ownDrive (bitFault : Bool) : DriveRecord := { DriveRecord.empty with reject := bitFault }

/-! ### Outcomes -/

/-- The outcome of a frame at this station (R22, R31). -/
inductive Verdict where
  | passed
  | rejected
  | dissented (agree : Bool)
  | slotFault
  deriving DecidableEq, Repr

/-- A slot driven dominant was sampled recessive (R22). -/
def driveMissed (d : DriveRecord) (s : Slots) : Bool :=
  (d.reject && !s.reject) || (d.agree && !s.agree) || (d.dissent && !s.dissent)

/-- The outcome by the sampled slots (R22, Table 2-2). -/
def verdictOf (d : DriveRecord) (s : Slots) : Verdict :=
  if driveMissed d s then .slotFault
  else if s.reject then .rejected
  else if s.dissent then .dissented s.agree
  else .passed

/-- A delivery at the Commit Unit: the frame, if its contents were assembled without a format fault; whether this
station sent it; its outcome; and what this station drove. -/
structure Delivery where
  frame   : Option Frame
  own     : Bool
  verdict : Verdict
  drove   : DriveRecord
  deriving DecidableEq, Repr

/-- The kind of the delivered frame. -/
def Delivery.kind? (d : Delivery) : Option Kind := d.frame.map (·.content.kind)

/-- The station falls out of step in this delivery (R24, R25, R30, R31, R37). -/
def State.outOfStepBy (s : State) (d : Delivery) : Bool :=
  match d.verdict with
  | .slotFault => s.table.validity == .complete
  | .dissented agree =>
      if d.own then !agree && (d.kind?.map epochBearing).getD false
      else s.ctrl.station == .active && d.drove.dissent && agree
  | .passed => !d.own && s.ctrl.station == .synced && d.kind? == some .genesis
  | .rejected => false

/-- The report on an own frame by its outcome, before the count is looked at (Table 2-4). -/
def State.reportOf (s : State) (d : Delivery) : OfferEnd :=
  match d.verdict with
  | .passed => .passed
  | .rejected => .retry
  | .dissented agree =>
      match d.kind? with
      | some .genesis => .dropped
      | some k => if epochBearing k && !agree then .dropped else .retry
      | none => .retry
  | .slotFault => if s.table.validity = .complete then .dropped else .retry

/-! ### The steps of one delivery (R36) -/

/-- Step 2: the heard notice (R28). -/
def State.stepHeard (s : State) (d : Delivery) : State :=
  match d.frame with
  | some f => if d.own then s else s.heard f.sender f.content.kind
  | none => s

/-- A committed frame other than GENESIS (R26, R27). -/
def State.commitChange (s : State) (sender : StationId) (c : Change) : State :=
  if s.table.validity = .complete then s.applyCommit sender c else s.logCommit { sender, change := c }

/-- A committed GENESIS (R30). -/
def State.commitGenesis (s : State) (own : Bool) : State := if own then s.ownGenesis else s.otherGenesis

/-- An accepted SNAPSHOT (R29). -/
def State.acceptSegment (s : State) (d : Delivery) (sender target : StationId) (e j : Word16) (seg : Segment) : State :=
  if d.own then s.segmentAccepted
  else if target = s.ctrl.id then s.takeSegment sender e j seg
  else s

/-- Step 3 for a passed frame: applied, handed on or accepted by its kind (R26, R27, R29, R30). An accepted PRESENCE
adds nothing to its heard notice and its report (R76). -/
def State.stepPassed (s : State) (d : Delivery) (f : Frame) : State :=
  match f.content with
  | .genesis => s.commitGenesis d.own
  | .snapshot target e j seg => s.acceptSegment d f.sender target e j seg
  | .presence _ => s
  | .join => s.commitChange f.sender .join
  | .leave _ => s.commitChange f.sender .leave
  | .ready _ => s.commitChange f.sender .ready
  | .evict _ x => s.commitChange f.sender (.evict x)
  | .acquire _ l m t => s.commitChange f.sender (.acquire l m t)
  | .release _ l => s.commitChange f.sender (.release l)
  | .cancel _ l => s.commitChange f.sender (.cancel l)

/-- Step 3: what the outcome does before the reports; a slot fault at a station without a COMPLETE table is a log gap
(R31, R32). -/
def State.stepApply (s : State) (d : Delivery) : State :=
  match d.verdict, d.frame with
  | .passed, some f => s.stepPassed d f
  | .slotFault, _ => if s.table.validity = .complete then s else s.logGap
  | _, _ => s

/-- A commit of this delivery was applied at this station (R36 step 4, R103). -/
def State.commitsAt (s : State) (d : Delivery) : Bool :=
  d.verdict == .passed &&
    match d.frame with
    | some f =>
        match f.content with
        | .genesis => d.own
        | .snapshot _ _ _ _ | .presence _ => false
        | _ => s.table.validity == .complete
    | none => false

/-- Step 4: the donor side's evaluation after a commit at an ACTIVE station (R103). -/
def State.stepEvaluate (s : State) (committed : Bool) : State :=
  if committed && s.ctrl.station == .active then s.evaluateDonor else s

/-- A rise of the consecutive-failure count (R33). -/
def State.countFailure (s : State) : State := s.setCommit { s.commit with failures := s.commit.failures + 1 }

/-- A RETRY that brings the count to 16 (R33). -/
def State.reachesLimit (s : State) : Bool := decide (Config.failureLimit ≤ s.commit.failures + 1)

/-- Step 5 for an own frame that passed: the count returns to 0 (R33). -/
def State.reportPassed (s : State) : State := (s.setCommit { s.commit with failures := 0 }).endOffer .passed

/-- Step 5 for an own frame to be offered again: the count rises, and at 16 the report is DROPPED in place of RETRY
(R33). -/
def State.reportRetry (s : State) : State :=
  if s.reachesLimit then (s.setCommit { s.commit with failures := Config.failureLimit }).endOffer .dropped
  else s.countFailure.endOffer .retry

/-- Step 5 for an own frame dropped: a dissented GENESIS takes its founder back to SEEKING (R24, R90). -/
def State.reportDropped (s : State) (d : Delivery) : State :=
  let t := s.endOffer .dropped
  if d.kind? = some .genesis ∧ d.verdict ≠ .slotFault then t.abandonFounding else t

/-- Step 5: the count and the report, for an own frame (R33, R135). -/
def State.stepReport (s : State) (d : Delivery) (r : OfferEnd) : State :=
  match r with
  | .passed => s.reportPassed
  | .retry => s.reportRetry
  | .dropped => s.reportDropped d
  | .lost => s

/-- Step 6: falling out of step, or FAULT at a count of 16 (R34, R37). -/
def State.stepLeave (s : State) (outOfStep limit : Bool) : State :=
  if outOfStep then s.fallOutOfStep else if limit then s.enterFault .rejectLimit else s

/-- One delivery taken whole, in the order of R36. -/
def State.deliver (s : State) (d : Delivery) : State :=
  let r := s.reportOf d
  let t := ((s.stepHeard d).stepApply d).stepEvaluate (s.commitsAt d)
  let u := if d.own then t.stepReport d r else t
  u.stepLeave (s.outOfStepBy d) (d.own && r == .retry && t.reachesLimit)

end Sys2Proof.Machine
end

