-- ==== Sys2Proof/Machine/Line.lean ====
section
/-! DEFINITION. The Line Unit: idle, bus starts, arbitration, the CRC hand-off, flags, line faults, a stuck line, and
the delivery of a frame (R4 to R6, R10 to R18). -/

namespace Sys2Proof.Machine

/-- An own frame is in its body (R10). -/
def LineUnit.inBody (u : LineUnit) : Bool := u.tx == .contending || u.tx == .sending

/-- An own frame is on the line and not aborted (R10, R13). -/
def LineUnit.ownOnLine (u : LineUnit) : Bool := u.tx != .idle && !u.aborted

/-- A frame whose delivery is still to be taken before the line counts as idle (R4, R14, R16 to R18; log 4). -/
def LineUnit.undelivered (u : LineUnit) : Bool :=
  !u.aborted && u.reception != .delivered &&
    (u.rx == .verdict || u.rx == .closing || (u.rx == .body && (u.assembly.errorFlag || u.reception == .lostPlace)))

/-- The station follows the cells of a frame's body as they come (R14, R16, R17). -/
def LineUnit.followsBody (u : LineUnit) : Bool :=
  u.rx == .body && u.reception == .following && !u.assembly.errorFlag

/-! ### Idle and bus starts -/

/-- The Line Unit on an idle line: QUIET, nothing assembled, no own frame (R4, R10). A reception abandoned on a missing
edge is truncated and discarded (R17). -/
def LineUnit.settle (u : LineUnit) : LineUnit :=
  { u with rx := .quiet, reception := .following, assembly := .empty, dominant := 0, tx := .idle, aborted := false }

/-- The line becomes idle (R4). The idle of a frame whose delivery has not been taken is not yet this one (log 4). -/
def State.lineIdle (s : State) : State :=
  if s.line.rx = .quiet || s.line.undelivered || s.line.ownOnLine then s
  else (s.setLine s.line.settle).offerAtIdle

/-- The Line Unit at another station's SOF edge: the reception of a frame begins (R4, R5, R9). -/
def LineUnit.receive (u : LineUnit) : LineUnit :=
  { u with rx := .body, reception := .following, assembly := .empty, dominant := 0 }

/-- Another station's SOF edge: a bus start where the phase is QUIET (R5, R130). -/
def State.busStart (s : State) : State :=
  if s.line.rx = .quiet then
    match s.sel.offered with
    | some _ => s.driveSof
    | none => (s.setLine s.line.receive).busStarts
  else s

/-! ### Sending -/

/-- A contender loses arbitration and becomes a receiver of the frame (R11, R134); a bit fault taken before it is
forgotten (R12). -/
def State.arbitrationLost (s : State) : State :=
  if s.line.tx = .contending then
    (s.setLine { s.line with tx := .idle, fixed := none, bitFault := false }).endOffer .lost
  else s

/-- A sending station takes a bit fault (R12). From the first LENGTH cell on, arbitration is over (R10). -/
def State.bitFaultDetected (s : State) (cell : FaultCell) : State :=
  match cell, s.line.tx with
  | .arbitration, .contending => s.setLine { s.line with bitFault := true }
  | .body, .contending => s.setLine { s.line with bitFault := true, tx := .sending }
  | .body, .sending => s.setLine { s.line with bitFault := true }
  | _, _ => s

/-! ### Receiving -/

/-- A frame's bits as the receive assembly holds them after its last CRC cell (R14, R15). -/
def assembledFrom (raw : RawFrame) (formatFault : Bool) : Assembly :=
  { code := some raw.code, sender := some raw.sender, length := some raw.length, payload := raw.payload,
    crc := crcOf raw.code raw.sender raw.length raw.payload, formatFault, errorFlag := false, slots := none }

/-- The hand-off of another station's frame: the format checks, and the slots this station will drive (R14, R15,
R19). -/
def State.handOffReceived (s : State) (raw : RawFrame) : State :=
  let ff := formatFaultOf raw s.ctrl.id
  (s.setLine { s.line with rx := .verdict, assembly := assembledFrom raw ff }).setCommit
    { s.commit with drive := s.driveFor raw.sender (if ff then none else contentOf raw) }

/-- The hand-off of an own frame (R10, R21). -/
def State.handOffOwn (s : State) : State :=
  (s.setLine { s.line with tx := .slots, rx := .verdict }).setCommit
    { s.commit with drive := ownDrive s.line.bitFault }

/-- The last CRC cell has been sampled (R4, R10, R14, R19). -/
def State.crcHandoff (s : State) (raw : RawFrame) : State :=
  if s.line.followsBody then
    if s.line.inBody then s.handOffOwn
    else if placeable raw then s.handOffReceived raw
    else s
  else s

/-- The cells of a flag cause, where they show one of the two faults of R16. -/
def flagAssembly : FlagCause → Option Assembly
  | .unknownKind code =>
      if (kindOf code).isNone then
        some { Assembly.empty with code := some code, formatFault := true, errorFlag := true }
      else none
  | .lengthFault code sender length =>
      match kindOf code with
      | some k =>
          if lengthFault k length then
            some { Assembly.empty with code := some code, sender := some sender, length := some length,
                                       formatFault := true, errorFlag := true }
          else none
      | none => none

/-- A receiver flags a frame it cannot place (R16). A station in DETACHED or FAULT drives no flag and has lost its
place (log 15). -/
def State.flagFrame (s : State) (a : Assembly) : State :=
  if s.ctrl.station.silent then
    s.setLine { s.line with assembly := { a with errorFlag := false }, reception := .lostPlace }
  else s.setLine { s.line with assembly := a }

/-- An error flag: driven by this station as a receiver, or met by it as the frame's sender, which then has a bit fault
(R12, R16; log 16). -/
def State.errorFlag (s : State) (cause : FlagCause) : State :=
  if s.line.followsBody then
    if s.line.inBody then s.setLine { s.line with bitFault := true, tx := .sending }
    else
      match flagAssembly cause with
      | some a => s.flagFrame a
      | none => s
  else s

/-- What a line fault makes of a frame in its body, at a receiver (R17). -/
def bodyFault (r : Reception) (m : LineFault) : Reception :=
  match r, m with
  | .following, .missingEdge => .abandoned
  | .following, .framingFault => .lostPlace
  | .abandoned, .framingFault => .lostPlace
  | _, _ => r

/-- The phases once the END cell has been sampled (R4, R10). -/
def LineUnit.pastEnd (u : LineUnit) : LineUnit :=
  { u with rx := .closing, tx := if u.tx = .slots then .ending else u.tx }

/-- A line fault in the slots or END: a slot fault; END has been sampled where the fault shows it (R4, R18). -/
def LineUnit.verdictFault (u : LineUnit) (m : LineFault) : LineUnit :=
  match u.reception, m with
  | .following, .missingEdge => { u with reception := .slotFault }
  | .following, .framingFault => { u with reception := .slotFault }
  | .following, .endDominant => { u.pastEnd with reception := .slotFault }
  | .following, .closingEdge => { u.pastEnd with reception := .slotFault }
  | _, _ => u

/-- A falling edge after END and before idle: a slot fault (R18). -/
def closingFault (r : Reception) (m : LineFault) : Reception :=
  match r, m with
  | .following, .framingFault => .slotFault
  | .following, .closingEdge => .slotFault
  | _, _ => r

/-- What is met on the line shows a recessive level: the absence of an edge, or an edge, before which the line was
recessive (R3, R6). -/
def showsRecessive : LineFault → Bool
  | .recessive | .missingEdge | .framingFault | .closingEdge => true
  | .endDominant => false

/-- The dominant count where a recessive level is seen: back to 0 (R6). -/
def LineUnit.seeLevel (u : LineUnit) (m : LineFault) : LineUnit :=
  if showsRecessive m then { u with dominant := 0 } else u

/-- The effect of a line fault by the reception phase (R17, R18). A sender places its own edges in the body, and a
station that has flagged the frame follows no cells (R16). -/
def LineUnit.faultByPhase (u : LineUnit) (m : LineFault) : LineUnit :=
  match u.rx with
  | .body => if u.inBody || u.assembly.errorFlag then u else { u with reception := bodyFault u.reception m }
  | .verdict => u.verdictFault m
  | .closing => { u with reception := closingFault u.reception m }
  | .settling | .quiet => u

/-- A line fault met by the Line Unit: the level it shows counts in every phase (R6), and the fault by the phase (R17,
R18). -/
def LineUnit.lineFault (u : LineUnit) (m : LineFault) : LineUnit := (u.seeLevel m).faultByPhase m

/-! ### The cells of a frame passing -/

/-- Cells of the frame on the line pass without anything that a row shows (R4, R10): an arbitration field that was not
lost has been won, so CONTENDING becomes SENDING; the slots and END have gone by, so SLOTS becomes ENDING, and VERDICT
becomes CLOSING unless a slot fault has stopped the reception (R4, R18). -/
def LineUnit.cellsPass (u : LineUnit) : LineUnit :=
  { u with
    tx := match u.tx with
      | .contending => .sending
      | .slots => .ending
      | .idle | .sending | .ending => u.tx
    rx := if u.rx = .verdict ∧ u.reception = .following then .closing else u.rx }

/-- Time passes while no command waits (DESIGN CHOICE, log 37). A part held in reset stays as it is (log 10). -/
def State.timePasses (s : State) : State := s.unlessReset (fun s => s.setLine s.line.cellsPass)

/-! ### A stuck line -/

/-- The dominant count reaches 32: a reception is abandoned without a delivery (R6). -/
def LineUnit.stuck (u : LineUnit) : LineUnit :=
  { u with dominant := Config.stuckLimit, rx := .settling, reception := .following, assembly := .empty }

/-- A stuck line found, once for each unbroken dominant stretch: the count leaves 32 at the next recessive level. In
DETACHED and in FAULT it is not reported (R6, R34). -/
def State.lineStuck (s : State) : State :=
  if Config.stuckLimit ≤ s.line.dominant then s
  else
    let t := s.setLine s.line.stuck
    if s.ctrl.station.silent then t else t.enterFault .lineStuck

/-! ### Delivery -/

/-- The frame that an assembly without a fault holds. -/
def Assembly.frame? (a : Assembly) : Option Frame :=
  match a.code, a.sender with
  | some code, some sender => ((kindOf code).bind (parseContent · a.payload)).map (fun c => { sender, content := c })
  | _, _ => none

/-- The contents delivered with another station's frame: none with a format fault, a flag or a lost place (R17,
R28). -/
def LineUnit.received (u : LineUnit) : Option Frame :=
  if u.assembly.formatFault || u.assembly.errorFlag || u.reception == .lostPlace then none else u.assembly.frame?

/-- The outcome delivered: a flagged frame is failed (R16, R23), a slot fault is one (R17, R18, R31), and any other
frame is judged by its slots (R22). -/
def LineUnit.judge (u : LineUnit) (d : DriveRecord) (slots : Slots) : Verdict :=
  if u.assembly.errorFlag then .rejected
  else if u.reception == .slotFault || u.reception == .lostPlace then .slotFault
  else verdictOf d slots

/-- What the Line Unit delivers to the Commit Unit (R10, R14). -/
def State.delivery (s : State) (slots : Slots) : Delivery :=
  { frame := if s.line.ownOnLine then s.line.fixed else s.line.received
    own := s.line.ownOnLine
    verdict := s.line.judge s.commit.drive slots
    drove := s.commit.drive }

/-- The Line Unit once a delivery has been taken, on the recessive line of an idle: the own frame is off the wire
(R10), the dominant count is 0 (R6), and the idle's own row is awaited (R4, log 4). The assembly holds the three sampled
slots where they were delivered (R14). After a fault that stopped the taking of cells, a flag, and a frame without a
delivery from BODY the delivery carries no slot values (R16 to R18), and the spec does not say what the assembly's samples
then hold; the model holds none (DESIGN CHOICE, log 39). -/
def LineUnit.handOver (u : LineUnit) (slots : Slots) : LineUnit :=
  { u with
    tx := .idle, aborted := false, fixed := none, reception := .delivered, dominant := 0,
    rx := if u.rx = .verdict then .closing else u.rx,
    assembly := { u.assembly with slots := if u.assembly.errorFlag ∨ u.reception ≠ .following then none else some slots } }

/-- The delivery taken off the Line Unit, and the drive record emptied for the next frame (log 17). -/
def State.takeDelivery (s : State) (slots : Slots) : State :=
  (s.setLine (s.line.handOver slots)).setCommit { s.commit with drive := .empty }

/-- The idle after END: the frame is delivered once. An aborted own frame and a truncated one give no delivery (R13,
R17), and a station in DETACHED or FAULT discards it (R35). -/
def State.frameDelivery (s : State) (slots : Slots) : State :=
  if s.line.aborted || (s.line.rx == .body && s.line.reception == .abandoned) then s.takeDelivery slots
  else if s.line.undelivered then
    if s.ctrl.station.silent then s.takeDelivery slots
    else (s.takeDelivery slots).deliver (s.delivery slots)
  else s

end Sys2Proof.Machine
end

