-- ==== Sys2Proof/Machine/Responses.lean ====
section
/-! DEFINITION. The response layouts of chapter 12.4, as functions of a state: STATUS, CONFIGURE, QUERY_LOCK,
QUERY_MEMBERS, READ_EVENT. -/

namespace Sys2Proof.Machine

/-- Zero bytes: the response of a refused query and of READ_EVENT on an empty queue (Table 12-9). -/
def zeroBytes (n : Nat) : List Byte := List.replicate n 0

/-- A small number as a byte. -/
def countByte (n : Nat) : Byte := BitVec.ofNat 8 n

/-- A bit of a byte, set where the flag is. -/
def flagBit (b : Bool) (place : Nat) : Byte := if b then BitVec.twoPow 8 place else 0

/-! ### STATUS (Table 12-10) -/

/-- The station state as a byte. -/
def stationStateByte : StationState → Byte
  | .detached => 0
  | .seeking => 1
  | .founding => 2
  | .receiving => 3
  | .synced => 4
  | .active => 5
  | .fault => 6

/-- RATE1 then RATE0 (Table 1-1). -/
def rateBits : BitRate → Byte
  | .k125 => 0
  | .k250 => 1
  | .k500 => 2
  | .k1000 => 3

/-- The member count that STATUS reports (R67, R176). -/
def State.memberCount (s : State) : Nat := if s.table.validity = .complete then activeCount s.table.members else 0

/-- The eleven response bytes of STATUS. -/
def State.statusBytes (s : State) : List Byte :=
  [stationStateByte s.ctrl.station,
   (stationByte s.ctrl.id <<< 4) ||| rateBits s.line.rate,
   flagBit s.commit.epoch.isSome 0] ++
  bytesOf (s.commit.epoch.getD 0) ++
  [countByte s.memberCount,
   countByte s.events.entries.length,
   countByte s.intents.queue.length,
   countByte s.commit.failures,
   causeByte s.commit.lastFault,
   countByte s.ctrl.attempts]

/-! ### CONFIGURE -/

/-- The three values in force (R177). -/
def State.configBytes (s : State) : List Byte := [s.ctrl.p, s.ctrl.k, s.ctrl.jmul]

/-! ### QUERY_LOCK (Tables 12-11 and 12-12) -/

/-- An intent state as a byte. -/
def intentStateByte : IntentState → Byte
  | .idle => 0
  | .requesting => 1
  | .waiting => 2
  | .held => 3
  | .releasing => 4
  | .cancelling => 5

/-- The intent flags (Table 12-12). -/
def intentFlags (r : IntentRecord) : Byte :=
  flagBit (r.mode == some .exclusive) 0 ||| flagBit (r.tryFlag == some true) 1 |||
  flagBit r.cause.isSome 2 ||| flagBit (r.cause == some .timeout) 3 |||
  flagBit r.mark.isSome 4 ||| flagBit (r.mark == some .timeout) 5 ||| flagBit r.token.isSome 6

/-- The fifteen waiter places (Table 12-11, bytes 9 to 23). -/
def waiterPlaces (ws : List Waiter) : List Byte := (ws.map waiterByte ++ List.replicate 15 0xFF).take 15

/-- The thirty response bytes of QUERY_LOCK. -/
def State.lockBytes (s : State) (l : LockId) : List Byte :=
  let e := entryAt s.table.locks l
  let r := s.intent l
  [lockByte l] ++ bytesOf s.epochValue ++ [lockModeByte e.mode] ++ bytesOf e.holders ++ bytesOf e.grants ++
  [countByte e.waiters.length] ++ waiterPlaces e.waiters ++
  [intentStateByte r.state, intentFlags r] ++ bytesOf (r.waitLimit.getD 0) ++ bytesOf (r.token.getD 0)

/-! ### QUERY_MEMBERS (Table 12-13) -/

/-- The donor, or 0xFF for "none". -/
def donorByte : Option StationId → Byte
  | some i => stationByte i
  | none => 0xFF

/-- The fifty-two response bytes of QUERY_MEMBERS. -/
def State.memberListBytes (s : State) : List Byte :=
  bytesOf s.epochValue ++ [donorByte (donorOf s.table.members), countByte (activeCount s.table.members)] ++
  s.table.members.toList.flatMap memberBytes

end Sys2Proof.Machine
end

