-- ==== Sys2Proof/Machine/HostPort.lean ====
section
/-! DEFINITION. The Host Port: transaction phases, the check byte, the taking of a command and its routing (R168 to
R177), and the byte on SDO. -/

namespace Sys2Proof.Machine

/-- A host command with its parameters as the host sent them (Tables 10-2 and 12-8). -/
inductive HostCommand where
  | status
  | configure (p k jmul : Byte)
  | enter
  | leave
  | detach
  | acquire (lock mode : Byte) (limit : Word16)
  | release (lock : Byte)
  | cancel (lock : Byte)
  | queryLock (lock : Byte)
  | queryMembers
  | readEvent
  deriving DecidableEq, Repr

/-- The number of parameter bytes of a known code (Table 12-8). -/
def parameterCount (code : Byte) : Option Nat :=
  if code = 0x01 then some 0
  else if code = 0x02 then some 3
  else if code = 0x03 then some 0
  else if code = 0x04 then some 0
  else if code = 0x05 then some 0
  else if code = 0x14 then some 2
  else if code = 0x15 then some 4
  else if code = 0x16 then some 1
  else if code = 0x17 then some 1
  else if code = 0x20 then some 1
  else if code = 0x21 then some 0
  else if code = 0x30 then some 0
  else none

/-- The command of a code byte and its parameter bytes (Table 12-8). Both ACQUIRE codes are the one command; code 0x14
carries a wait limit of 0. -/
def commandOf (code : Byte) (params : List Byte) : Option HostCommand :=
  match params with
  | [] =>
      if code = 0x01 then some .status
      else if code = 0x03 then some .enter
      else if code = 0x04 then some .leave
      else if code = 0x05 then some .detach
      else if code = 0x21 then some .queryMembers
      else if code = 0x30 then some .readEvent
      else none
  | [a] =>
      if code = 0x16 then some (.release a)
      else if code = 0x17 then some (.cancel a)
      else if code = 0x20 then some (.queryLock a)
      else none
  | [a, b] => if code = 0x14 then some (.acquire a b 0) else none
  | [a, b, c] => if code = 0x02 then some (.configure a b c) else none
  | [a, b, c, d] => if code = 0x15 then some (.acquire a b (wordOf c d)) else none
  | _ => none

/-! ### The commands at their owners -/

/-- CONFIGURE (R80, R177). -/
def State.configureCommand (s : State) (p k jmul : Byte) : StatusCode × State :=
  if s.ctrl.station ≠ .detached then (.wrongState, s)
  else if 2 ≤ p.toNat ∧ p.toNat ≤ 250 ∧ 3 ≤ k.toNat ∧ k.toNat ≤ 15 ∧ 16 ≤ jmul.toNat then
    (.ok, s.setCtrl { s.ctrl with p, k, jmul })
  else (.range, s)

/-- ENTER (R84); on a line that stands stuck, LINE_STUCK is reported at once (R6). -/
def State.enterCommand (s : State) : StatusCode × State :=
  if s.ctrl.station ≠ .detached then (.wrongState, s)
  else
    let t := s.setCtrl { s.ctrl with station := .seeking, attempts := 1, control := some .join }
    (.ok, if Config.stuckLimit ≤ s.line.dominant then t.enterFault .lineStuck else t.choose)

/-- LEAVE (R98). -/
def State.leaveCommand (s : State) : StatusCode × State :=
  if s.ctrl.station ≠ .active then (.wrongState, s)
  else if s.ctrl.leavePending then (.duplicate, s)
  else if s.queueFull then (.queueFull, s)
  else (.ok, (s.setCtrl { s.ctrl with leavePending := true }).enqueue .leave)

/-- DETACH (R101). -/
def State.detachCommand (s : State) : State := if s.ctrl.station = .detached then s else s.detach

/-- A taken command makes a frame available: the selector may choose (R126). A refused one changes nothing (R175). -/
def thenChoose (r : StatusCode × State) : StatusCode × State :=
  if r.1 = .ok then (.ok, r.2.choose) else r

/-- A taken command at the block that owns it: its status, its response bytes, and the state it leaves (R170, R173,
R175). -/
def State.take (s : State) (c : HostCommand) : StatusCode × List Byte × State :=
  match c with
  | .status => (.ok, s.statusBytes, s)
  | .configure p k jmul =>
      let r := s.configureCommand p k jmul
      (r.1, r.2.configBytes, r.2)
  | .enter => ((s.enterCommand).1, [], (s.enterCommand).2)
  | .leave =>
      let r := thenChoose s.leaveCommand
      (r.1, [], r.2)
  | .detach => (.ok, [], s.detachCommand)
  | .acquire lock mode limit =>
      let r := thenChoose (s.acquireCommand lock mode limit)
      (r.1, [], r.2)
  | .release lock =>
      let r := thenChoose (s.releaseCommand lock)
      (r.1, [], r.2)
  | .cancel lock =>
      let r := thenChoose (s.cancelCommand lock)
      (r.1, [], r.2)
  | .queryLock lock =>
      match lockOf lock with
      | none => (.range, zeroBytes 30, s)
      | some l => if s.table.validity = .complete then (.ok, s.lockBytes l, s) else (.noTable, zeroBytes 30, s)
  | .queryMembers =>
      if s.table.validity = .complete then (.ok, s.memberListBytes, s) else (.noTable, zeroBytes 52, s)
  | .readEvent =>
      match s.events.entries with
      | [] => (.empty, zeroBytes 10, s)
      | head :: _ => (.ok, head.bytes, s.setEvents (s.events.capture head))

/-! ### Framing -/

/-- The response buffer filled; the turnaround byte comes next (R169, R173). -/
def State.respond (s : State) (bytes : List Byte) : State :=
  s.setPort { s.port with phase := .turnaround, bitCount := 0, response := bytes, shifted := 0 }

/-- The command shift buffer filled with a code byte and its parameters (R169). -/
def State.fillBuffer (s : State) (bytes : List Byte) : State := s.setPort { s.port with buffer := bytes, bitCount := 0 }

/-- The sum of the bytes of a command is 0 modulo 256 (R170). -/
def checkHolds (code : Byte) (params : List Byte) (check : Byte) : Bool := params.foldl (· + ·) code + check == 0

/-- A taken command's response (R170, R173). -/
def State.answer (s : State) (c : HostCommand) : State :=
  (s.take c).2.2.respond (statusCodeByte (s.take c).1 :: (s.take c).2.1)

/-- The check byte is complete: the command is taken, or BAD_CHECK follows (R170, R172). -/
def State.checkByte (s : State) (code : Byte) (params : List Byte) (check : Byte) : State :=
  if checkHolds code params check then
    match commandOf code params with
    | some c => s.answer c
    | none => s
  else s.respond [statusCodeByte .badCheck]

/-- The row of a host command: its check byte completes in phase COMMAND. The bytes of the command that the shift
buffer does not hold yet arrive with it (log 7); a buffer that holds other bytes, or another phase, means that the row
does not occur (log 2). -/
def State.commandRow (s : State) (code : Byte) (params : List Byte) (check : Byte) : State :=
  if s.port.phase = .command ∧ s.port.buffer.isPrefixOf (code :: params) then
    (s.fillBuffer (code :: params)).checkByte code params check
  else s

/-- An unknown code byte: BAD_COMMAND follows the turnaround byte (R171). -/
def State.rejectCode (s : State) (code : Byte) : State :=
  (s.fillBuffer [code]).respond [statusCodeByte .badCommand]

/-- The last response byte has been shifted out: TRAILING, and a read record is acted on (R164, R169). -/
def State.finishResponse (s : State) : State :=
  (s.setPort { s.port with phase := .trailing, bitCount := 0, shifted := s.port.response.length }).setEvents
    s.events.complete

/-- A byte received in phase COMMAND: the code byte, a parameter byte or the check byte (R169). -/
def State.commandByte (s : State) (sdi : Byte) : State :=
  match s.port.buffer with
  | [] => if (parameterCount sdi).isSome then s.fillBuffer [sdi] else s.rejectCode sdi
  | code :: params =>
      if params.length < (parameterCount code).getD 0 then s.fillBuffer (s.port.buffer ++ [sdi])
      else s.checkByte code params sdi

/-- A byte shifted out in phase RESPONSE (R164, R169). -/
def State.responseByte (s : State) : State :=
  if s.port.shifted + 1 < s.port.response.length then
    s.setPort { s.port with shifted := s.port.shifted + 1, bitCount := 0 }
  else s.finishResponse

/-- A byte completes on its eighth SCK rising edge (R168, R169). -/
def State.byteComplete (s : State) (sdi : Byte) : State :=
  match s.port.phase with
  | .deselected | .trailing => s
  | .command => s.commandByte sdi
  | .turnaround => s.setPort { s.port with phase := .response, bitCount := 0 }
  | .response => s.responseByte

/-- BAD_COMMAND: an unknown code byte completes as the first byte of a transaction (R171). -/
def State.badCommand (s : State) (code : Byte) : State :=
  if s.port.phase = .command ∧ s.port.buffer = [] ∧ (parameterCount code).isNone then s.rejectCode code else s

/-- READ_EVENT_COMPLETE: the last response byte of a READ_EVENT has been shifted out; the bytes before it that have not
been clocked one by one go out with it (R164; log 8). A READ_EVENT that answered EMPTY made no read record, and its
completion changes nothing at the Event Queue (R164); the spec does not say whether this row stands for that completion
too. The model takes it as one that does not occur without a read record: the bytes of an EMPTY response go out by
BYTE_COMPLETE alone, and the row leaves the phase as it is (DESIGN CHOICE, log 8). -/
def State.readEventComplete (s : State) : State :=
  if s.events.reading.isSome ∧ (s.port.phase = .turnaround ∨ s.port.phase = .response) then s.finishResponse else s

/-- A falling edge of nCS starts a transaction in COMMAND with an empty shift buffer and a bit count of 0 (R168, R169).
That it empties the response buffer and its shifted count too is the model's choice (DESIGN CHOICE, log 40). -/
def State.ncsFall (s : State) : State :=
  if s.ncsLow then s
  else if s.inReset then s.setNcs true
  else (s.setNcs true).setPort { HostPort.initial with phase := .command }

/-- A rising edge of nCS ends the transaction in whatever phase it is in: the phase is DESELECTED, an incomplete byte is
discarded, and a READ_EVENT is cut short (R168, R169, R174). What the shift buffer, the response buffer and its shifted
count hold from then on is left open: outside reset no rule empties them before the next falling edge, and that one
empties the shift buffer alone. The model empties all three at the rising edge (DESIGN CHOICE, log 40). -/
def State.ncsRise (s : State) : State :=
  if s.ncsLow then
    if s.inReset then s.setNcs false
    else ((s.setNcs false).setPort .initial).setEvents s.events.cutShort
  else s

/-- The byte that the host reads back on SDO while the byte now arriving is clocked; none where SDO is high-impedance
(R168, R169). -/
def State.sdoByte (s : State) : Option Byte :=
  if s.inReset then none
  else
    match s.port.phase with
    | .deselected => none
    | .command => some 0xFF
    | .turnaround => some 0x00
    | .response => s.port.response[s.port.shifted]?
    | .trailing => some 0xFF

end Sys2Proof.Machine
end

