-- ==== Sys2Proof/Machine/HostCommands.lean ====
section
/-! DEFINITION. The meanings of the host commands and of the host port's own steps (chapter 10). A host command is the
completion of its check byte: code and parameters as Table 12-8 lays them out. While the part is held in reset it
ignores SCK and SDI (R178). -/

namespace Sys2Proof.Machine

/-- STATUS (R176, Table 12-10). -/
def execStatus (check : Byte) (s : State) : Host.Outcome State Fault Refusal :=
  .next (s.unlessReset (fun s => s.commandRow 0x01 [] check))

/-- CONFIGURE (R80, R177). -/
def execConfigure (p k jmul check : Byte) (s : State) : Host.Outcome State Fault Refusal :=
  .next (s.unlessReset (fun s => s.commandRow 0x02 [p, k, jmul] check))

/-- ENTER (R84). -/
def execEnter (check : Byte) (s : State) : Host.Outcome State Fault Refusal :=
  .next (s.unlessReset (fun s => s.commandRow 0x03 [] check))

/-- LEAVE (R98). -/
def execLeave (check : Byte) (s : State) : Host.Outcome State Fault Refusal :=
  .next (s.unlessReset (fun s => s.commandRow 0x04 [] check))

/-- DETACH (R101). -/
def execDetach (check : Byte) (s : State) : Host.Outcome State Fault Refusal :=
  .next (s.unlessReset (fun s => s.commandRow 0x05 [] check))

/-- ACQUIRE, code 0x14: a wait limit of 0 (R143). -/
def execAcquireNoWaitLimit (lock mode check : Byte) (s : State) : Host.Outcome State Fault Refusal :=
  .next (s.unlessReset (fun s => s.commandRow 0x14 [lock, mode] check))

/-- ACQUIRE, code 0x15: the wait limit in milliseconds, high byte first (R143, R150). -/
def execAcquireWithWaitLimit (lock mode : Byte) (limit : Word16) (check : Byte) (s : State) : Host.Outcome State Fault Refusal :=
  .next (s.unlessReset (fun s => s.commandRow 0x15 ([lock, mode] ++ bytesOf limit) check))

/-- RELEASE (R144). -/
def execRelease (lock check : Byte) (s : State) : Host.Outcome State Fault Refusal :=
  .next (s.unlessReset (fun s => s.commandRow 0x16 [lock] check))

/-- CANCEL (R145). -/
def execCancel (lock check : Byte) (s : State) : Host.Outcome State Fault Refusal :=
  .next (s.unlessReset (fun s => s.commandRow 0x17 [lock] check))

/-- QUERY_LOCK (R61 to R63). -/
def execQueryLock (lock check : Byte) (s : State) : Host.Outcome State Fault Refusal :=
  .next (s.unlessReset (fun s => s.commandRow 0x20 [lock] check))

/-- QUERY_MEMBERS (R82). -/
def execQueryMembers (check : Byte) (s : State) : Host.Outcome State Fault Refusal :=
  .next (s.unlessReset (fun s => s.commandRow 0x21 [] check))

/-- READ_EVENT (R163). -/
def execReadEvent (check : Byte) (s : State) : Host.Outcome State Fault Refusal :=
  .next (s.unlessReset (fun s => s.commandRow 0x30 [] check))

/-- NCS_FALL (R168, R169). In reset only the level of the pin changes (R178, R179). -/
def execNcsFall (s : State) : Host.Outcome State Fault Refusal := .next s.ncsFall

/-- NCS_RISE (R174). -/
def execNcsRise (s : State) : Host.Outcome State Fault Refusal := .next s.ncsRise

/-- BAD_COMMAND (R171). -/
def execBadCommand (code : Byte) (s : State) : Host.Outcome State Fault Refusal :=
  .next (s.unlessReset (fun s => s.badCommand code))

/-- READ_EVENT_COMPLETE (R164). -/
def execReadEventComplete (s : State) : Host.Outcome State Fault Refusal :=
  .next (s.unlessReset State.readEventComplete)

/-- BYTE_COMPLETE (R168, R169): the byte the host sent on SDI. -/
def execByteComplete (sdi : Byte) (s : State) : Host.Outcome State Fault Refusal :=
  .next (s.unlessReset (fun s => s.byteComplete sdi))

end Sys2Proof.Machine
end

