-- ==== Sys2Proof/Machine/LineEvents.lean ====
section
/-! DEFINITION. The meanings of the events on BUSD (chapters 1, 2 and 7). While the part is held in reset it does not
follow the line; only the idle after its own last cells is known to it (R178). -/

namespace Sys2Proof.Machine

/-- LINE_IDLE (R4, R5, R126, R178). -/
def execLineIdle (s : State) : Host.Outcome State Fault Refusal := .next (s.atIdle State.lineIdle)

/-- BUS_START (R5, R130). -/
def execBusStart (s : State) : Host.Outcome State Fault Refusal := .next (s.unlessReset State.busStart)

/-- ARBITRATION_LOST (R11, R134). -/
def execArbitrationLost (s : State) : Host.Outcome State Fault Refusal := .next (s.unlessReset State.arbitrationLost)

/-- CRC_HANDOFF (R14, R15, R19 to R21). At the frame's own sender the operand is not read: the frame is the one fixed
at SOF (R10). -/
def execCrcHandoff (frame : RawFrame) (s : State) : Host.Outcome State Fault Refusal :=
  .next (s.unlessReset (fun s => s.crcHandoff frame))

/-- ERROR_FLAG (R16). -/
def execErrorFlag (cause : FlagCause) (s : State) : Host.Outcome State Fault Refusal :=
  .next (s.unlessReset (fun s => s.errorFlag cause))

/-- FRAME_DELIVERY (R14, R22 to R37, R178). -/
def execFrameDelivery (slots : Slots) (s : State) : Host.Outcome State Fault Refusal :=
  .next (s.atIdle (fun s => s.frameDelivery slots))

/-- LINE_STUCK (R6, R34). -/
def execLineStuck (s : State) : Host.Outcome State Fault Refusal := .next (s.unlessReset State.lineStuck)

/-- MISSING_EDGE (R3, R6, R17, R18). -/
def execMissingEdge (met : LineFault) (s : State) : Host.Outcome State Fault Refusal :=
  .next (s.unlessReset (fun s => s.setLine (s.line.lineFault met)))

/-- BIT_FAULT_DETECTED (R12). -/
def execBitFaultDetected (cell : FaultCell) (s : State) : Host.Outcome State Fault Refusal :=
  .next (s.unlessReset (fun s => s.bitFaultDetected cell))

end Sys2Proof.Machine
end

