-- ==== Sys2Proof/Machine/ResetPins.lean ====
section
/-! DEFINITION. The meanings of the reset pins: NRESET_ASSERT, NRESET_RELEASE, POWER_UP (R178, R179). -/

namespace Sys2Proof.Machine

/-- Every block held in its initial state, with the id and the bit rate given. The level of nCS, the counter of free
values and the waiting commands are no block's. -/
def State.restart (s : State) (id : StationId) (rate : BitRate) (inReset : Bool) : State :=
  State.initial id rate inReset s.ncsLow s.free s.pending

/-- The Line Unit as the assertion of nRESET leaves it: the own frame is ended as R13 gives. In its slots it goes on as
plain 1 cells; in every other phase nothing more is driven. All else stands as in Table 10-4 (R178). -/
def LineUnit.held (u : LineUnit) : LineUnit :=
  match u.tx with
  | .slots => { LineUnit.initial u.rate with tx := .slots, aborted := true }
  | .idle | .contending | .sending | .ending => .initial u.rate

/-- NRESET_ASSERT (R178): the own frame and the transaction end, and every block is held in its state of Table 10-4.
The straps are sampled at the release, so the id and the rate sampled last still stand (log 10). -/
def execNresetAssert (s : State) : Host.Outcome State Fault Refusal :=
  .next ((s.restart s.ctrl.id s.line.rate true).setLine s.line.held)

/-- NRESET_RELEASE (R179): the straps are sampled, and every block starts in its state of Table 10-4. -/
def execNresetRelease (straps : Straps) (s : State) : Host.Outcome State Fault Refusal :=
  .next (s.restart straps.id (rateOf straps.rate1 straps.rate0) false)

/-- POWER_UP (R178): supply and oscillator are stable. The part acts as at a release of nRESET; where the pin is still
low, the release takes place when the pin rises (NRESET_RELEASE; log 11). -/
def execPowerUp (straps : Straps) (nresetLow : Bool) (s : State) : Host.Outcome State Fault Refusal :=
  .next (s.restart straps.id (rateOf straps.rate1 straps.rate0) nresetLow)

end Sys2Proof.Machine
end

