-- ==== Sys2Proof/Machine/TimerEvents.lean ====
section
/-! DEFINITION. The meanings of the timers' expiries (chapters 4, 5, 7 and 8). A timer that is not running does not
expire (log 2). An expiry that makes a frame available on an idle line lets the selector choose (R126). -/

namespace Sys2Proof.Machine

/-- A timer's expiry: where the timer runs, its effect, and then a choice where the selector can make one (R126). -/
def State.expire (s : State) (timer : Timer) (effect : State → State) : State :=
  if timer = .running then (effect s).choose else s

/-- The yield wait expires with the line still idle: the flag clears and the selector chooses at once (R131). -/
def State.yieldWaitOver (s : State) : State := if s.line.rx = .quiet then s.clearYield else s

/-- PRESENCE_TIMER_EXPIRY (R75). -/
def execPresenceTimerExpiry (s : State) : Host.Outcome State Fault Refusal :=
  .next (s.unlessReset (fun s => s.expire s.ctrl.presence State.presenceExpired))

/-- SILENCE_TIMER_EXPIRY (R78). -/
def execSilenceTimerExpiry (peer : StationId) (s : State) : Host.Outcome State Fault Refusal :=
  .next (s.unlessReset (fun s => s.expire (entryAt s.ctrl.silence peer) (fun s => s.silenceExpired peer)))

/-- FIRST_CONTACT_EXPIRY (R88). -/
def execFirstContactExpiry (s : State) : Host.Outcome State Fault Refusal :=
  .next (s.unlessReset (fun s => s.expire s.ctrl.firstContact State.firstContactExpired))

/-- JOIN_DEADLINE_EXPIRY (R89). -/
def execJoinDeadlineExpiry (s : State) : Host.Outcome State Fault Refusal :=
  .next (s.unlessReset (fun s => s.expire s.ctrl.joinDeadline State.joinDeadlineExpired))

/-- WAIT_TIMER_EXPIRY (R150). -/
def execWaitTimerExpiry (lock : LockId) (s : State) : Host.Outcome State Fault Refusal :=
  .next (s.unlessReset (fun s => s.expire (entryAt s.intents.timers lock) (fun s => s.waitExpired lock)))

/-- YIELD_WAIT_EXPIRY (R131). -/
def execYieldWaitExpiry (s : State) : Host.Outcome State Fault Refusal :=
  .next (s.unlessReset (fun s => s.expire s.sel.yieldWait State.yieldWaitOver))

end Sys2Proof.Machine
end

