-- ==== Sys2Proof/Machine/Dispatch.lean ====
section
/-! DEFINITION. One command, by its meaning: one arm for each row of spec/opcode_table.json. -/

namespace Sys2Proof.Machine

/-- The effect of a command on everything but the queue. -/
def exec (i : Instr) (s : State) : Host.Outcome State Fault Refusal :=
  match i with
  | .nresetAssert => Sys2Proof.Machine.execNresetAssert s
  | .nresetRelease straps => Sys2Proof.Machine.execNresetRelease straps s
  | .powerUp straps nresetLow => Sys2Proof.Machine.execPowerUp straps nresetLow s
  | .ncsFall => Sys2Proof.Machine.execNcsFall s
  | .ncsRise => Sys2Proof.Machine.execNcsRise s
  | .badCommand code => Sys2Proof.Machine.execBadCommand code s
  | .status check => Sys2Proof.Machine.execStatus check s
  | .configure p k jmul check => Sys2Proof.Machine.execConfigure p k jmul check s
  | .enter check => Sys2Proof.Machine.execEnter check s
  | .leave check => Sys2Proof.Machine.execLeave check s
  | .detach check => Sys2Proof.Machine.execDetach check s
  | .acquireNoWaitLimit lock mode check => Sys2Proof.Machine.execAcquireNoWaitLimit lock mode check s
  | .acquireWithWaitLimit lock mode limit check => Sys2Proof.Machine.execAcquireWithWaitLimit lock mode limit check s
  | .release lock check => Sys2Proof.Machine.execRelease lock check s
  | .cancel lock check => Sys2Proof.Machine.execCancel lock check s
  | .queryLock lock check => Sys2Proof.Machine.execQueryLock lock check s
  | .queryMembers check => Sys2Proof.Machine.execQueryMembers check s
  | .readEvent check => Sys2Proof.Machine.execReadEvent check s
  | .readEventComplete => Sys2Proof.Machine.execReadEventComplete s
  | .lineIdle => Sys2Proof.Machine.execLineIdle s
  | .busStart => Sys2Proof.Machine.execBusStart s
  | .arbitrationLost => Sys2Proof.Machine.execArbitrationLost s
  | .crcHandoff frame => Sys2Proof.Machine.execCrcHandoff frame s
  | .errorFlag cause => Sys2Proof.Machine.execErrorFlag cause s
  | .frameDelivery slots => Sys2Proof.Machine.execFrameDelivery slots s
  | .lineStuck => Sys2Proof.Machine.execLineStuck s
  | .presenceTimerExpiry => Sys2Proof.Machine.execPresenceTimerExpiry s
  | .silenceTimerExpiry peer => Sys2Proof.Machine.execSilenceTimerExpiry peer s
  | .firstContactExpiry => Sys2Proof.Machine.execFirstContactExpiry s
  | .joinDeadlineExpiry => Sys2Proof.Machine.execJoinDeadlineExpiry s
  | .waitTimerExpiry lock => Sys2Proof.Machine.execWaitTimerExpiry lock s
  | .yieldWaitExpiry => Sys2Proof.Machine.execYieldWaitExpiry s
  | .missingEdge met => Sys2Proof.Machine.execMissingEdge met s
  | .bitFaultDetected cell => Sys2Proof.Machine.execBitFaultDetected cell s
  | .byteComplete sdi => Sys2Proof.Machine.execByteComplete sdi s

end Sys2Proof.Machine
end

