-- ==== Sys2Proof/Machine/Step.lean ====
section
/-! DEFINITION. One step: the command at the front of the queue is taken. -/

namespace Sys2Proof.Machine

/-- The oldest waiting command is carried out with the rest still waiting (log 1); with none waiting, time passes on the
line, and a block with no frame on the line idles (DESIGN CHOICE, log 37). -/
def step (s : State) : Host.Outcome State Fault Refusal :=
  match s.pending with
  | [] => .next s.timePasses
  | c :: rest => exec c (s.setPending rest)

/-- The state with the command that a word spells put at the front of the queue; a word that spells none changes
nothing (log 22). -/
def State.withFetchWord (s : State) (nbits w : Nat) : State :=
  match decodeTableWord nbits w with
  | some c => s.setPending (c :: s.pending)
  | none => s

end Sys2Proof.Machine
end

