-- ==== Sys2Proof/Machine/Intervals.lean ====
section
/-! DEFINITION. The lengths of time that the rules give, as functions of the state (R1, R4, R16, R75, R77, R80, R86,
R131, R150). The model does not count time: a timer's expiry is a command, and these say after how long the part gives
it (log 1). -/

namespace Sys2Proof.Machine

/-- The bit time in microseconds (Table 1-1). -/
def bitTime : BitRate → Nat
  | .k125 => 8
  | .k250 => 4
  | .k500 => 2
  | .k1000 => 1

/-- The recessive stretch that makes the line idle, in quarters of a bit time (R4). -/
def idleQuarters : Nat := 15

/-- The length of an error flag, in bit times (R16). -/
def flagBits : Nat := 6

/-- The yield wait, in bit times (R131). -/
def yieldBits : Nat := 1

/-- The presence interval P, in milliseconds (R75, R80). -/
def State.presenceInterval (s : State) : Nat := s.ctrl.p.toNat

/-- The first-contact interval, 4 × P (R86). -/
def State.firstContactInterval (s : State) : Nat := 4 * s.ctrl.p.toNat

/-- The join deadline, Jmul × P (R86). -/
def State.joinDeadlineInterval (s : State) : Nat := s.ctrl.jmul.toNat * s.ctrl.p.toNat

/-- A peer's silence limit: K × P while it is ACTIVE, Jmul × P while it is JOINING; no timer runs for an ABSENT one
(R77). -/
def State.silenceLimit (s : State) (peer : StationId) : Option Nat :=
  match statusIn s.table.members peer with
  | .active => some (s.ctrl.k.toNat * s.ctrl.p.toNat)
  | .joining => some (s.ctrl.jmul.toNat * s.ctrl.p.toNat)
  | .absent => none

/-- The interval of a wait timer, in milliseconds: the wait limit of the intent (R150). -/
def State.waitInterval (s : State) (l : LockId) : Option Nat := (s.intent l).waitLimit.map BitVec.toNat

end Sys2Proof.Machine
end

