-- ==== Sys2Proof/Machine/Outputs.lean ====
section
/-! DEFINITION. What the part drives on its outputs in a state: BUSD in the body and in the closing cells of a frame
(R7, R12 to R16, R21), ATTN (R166). The byte on SDO is `State.sdoByte` in Machine/HostPort.lean. These are readings of
the state (log 25); no command changes anything through them. -/

namespace Sys2Proof.Machine

/-- What a station does with one cell of a frame (R2, R14). -/
inductive CellDrive where
  | released
  | one
  | zero
  deriving DecidableEq, Repr

/-- A slot that a receiver drives or leaves released (R14). -/
def slotDrive (dominant : Bool) : CellDrive := if dominant then .zero else .released

/-- The body cells that the own frame on the wire consists of; none where no own frame is on the wire (R7, R10). -/
def State.sentBody (s : State) : List Bool :=
  if s.line.inBody then
    match s.line.fixed with
    | some f => bodyCells (rawOf f)
    | none => []
  else []

/-- What the station drives in REJECT, AGREE, DISSENT and END of the frame now in its slots (R7, R12, R14): a sender
opens every cell with a 1, and drives a 0 in REJECT where it has a bit fault; an aborted sender sends plain 1 cells, in
reset too (R13, R178); in ENDING its frame is complete and nothing is driven (R13); a receiver drives the slots of its drive record, and none once it is DETACHED or in FAULT, which
empties the record (R19, log 17). A station that has found a slot fault stops taking cells (R18); the spec does not say
whether it stops driving them too, and the model goes on showing its later slots and END as driven (DESIGN CHOICE,
log 34). -/
def State.closingCells (s : State) : List CellDrive :=
  if s.line.tx = .slots then
    [if s.commit.drive.reject && !s.line.aborted then .zero else .one, .one, .one, .one]
  else if s.line.tx ≠ .ending ∧ s.line.rx = .verdict then
    [slotDrive s.commit.drive.reject, slotDrive s.commit.drive.agree, slotDrive s.commit.drive.dissent, .released]
  else []

/-- The station has found a fault of R16 in the frame on the line, and drives an error flag of six bit times. The spec
does not say whether a flag already begun goes on when the station becomes DETACHED or enters FAULT: R13 and R19 stop the
own frame and the slots. The model goes on showing it (DESIGN CHOICE, log 35). -/
def State.drivesFlag (s : State) : Bool := s.line.rx == .body && s.line.assembly.errorFlag

/-- ATTN is driven low (R166); in reset it is released (R178). -/
def State.attnLow (s : State) : Bool := !s.inReset && s.events.attn

end Sys2Proof.Machine
end

