-- ==== Sys2Proof/Safety.lean ====
section
/-! DEFINITION. What a safe run is, and the words that the statements about the machine use: the rows of the host
commands, the marks of a state in which a command or an event can be taken, and the laws that every step keeps. -/

namespace Sys2Proof

open Machine

/-! ### Rows -/

/-- The code byte, the parameter bytes and the check byte of a host command's row (Table 12-8). -/
def Instr.hostBytes : Instr → Option (Byte × List Byte × Byte)
  | .status check => some (0x01, [], check)
  | .configure p k jmul check => some (0x02, [p, k, jmul], check)
  | .enter check => some (0x03, [], check)
  | .leave check => some (0x04, [], check)
  | .detach check => some (0x05, [], check)
  | .acquireNoWaitLimit lock mode check => some (0x14, [lock, mode], check)
  | .acquireWithWaitLimit lock mode limit check => some (0x15, [lock, mode, hiByte limit, loByte limit], check)
  | .release lock check => some (0x16, [lock], check)
  | .cancel lock check => some (0x17, [lock], check)
  | .queryLock lock check => some (0x20, [lock], check)
  | .queryMembers check => some (0x21, [], check)
  | .readEvent check => some (0x30, [], check)
  | _ => none

/-- The rows of the reset pins. -/
def Instr.isReset : Instr → Bool
  | .nresetAssert | .nresetRelease _ | .powerUp _ _ => true
  | _ => false

/-- The rows of the host port: the edges of nCS, a byte, and the host commands (chapter 10). -/
def Instr.isPort (c : Instr) : Bool :=
  match c with
  | .ncsFall | .ncsRise | .byteComplete _ | .badCommand _ | .readEventComplete => true
  | _ => c.hostBytes.isSome

namespace Machine

/-- A run is safe where no step ends in a fault or a refusal. -/
def SafeFrom (s : State) : Prop := ∀ n : Nat, ∃ t, Host.Core.run Sys2Proof.core n s = .next t

/-! ### The host port -/

/-- The check byte of a host command can complete: the part is out of reset, in phase COMMAND, and what the shift
buffer holds begins the command. -/
def State.Hears (s : State) (code : Byte) (params : List Byte) : Prop :=
  s.inReset = false ∧ s.port.phase = .command ∧ s.port.buffer <+: code :: params

/-- The command is taken at its check byte: the sum of its bytes is 0 modulo 256 (R170). -/
def State.Takes (s : State) (code : Byte) (params : List Byte) (check : Byte) : Prop :=
  s.Hears code params ∧ (code :: params).sum + check = 0

/-- The state with a command in the shift buffer, its status and response bytes in the response buffer, and the
turnaround byte next (R169, R173). -/
def State.answered (s : State) (command response : List Byte) : State :=
  s.setPort { phase := .turnaround, buffer := command, bitCount := 0, response, shifted := 0 }

/-! ### Reset -/

/-- Every block in its state of Table 10-4, with the given id and bit rate. -/
structure State.AsAfterReset (t : State) (id : StationId) (rate : BitRate) : Prop where
  line     : t.line =
    { rate, tx := .idle, aborted := false, fixed := none, bitFault := false, rx := .settling, reception := .following,
      assembly :=
        { code := none, sender := none, length := none, payload := [], crc := 0xFFFF, formatFault := false,
          errorFlag := false, slots := none }
      dominant := 0 }
  commit   : t.commit =
    { epoch := none, failures := 0, lastFault := .none, drive := { reject := false, agree := false, dissent := false } }
  validity : t.table.validity = .none
  transfer : t.transfer =
    { donorPhase := .free, image := none, nextSegment := 0, served := [], phase := .closed, log := [], discards := 0,
      current := none }
  ctrl     : t.ctrl =
    { station := .detached, id, attempts := 0, leavePending := false, control := none, evicts := 0,
      presencePending := false, firstContact := .stopped, joinDeadline := .stopped, deadlineHeld := false,
      contact := false, presence := .stopped, silence := Vector.replicate 16 .stopped, p := 20, k := 5, jmul := 100 }
  intents  : ∀ l, t.intent l =
    { state := .idle, mode := none, tryFlag := none, waitLimit := none, cause := none, mark := none, token := none,
      outstanding := none }
  queue    : t.intents.queue = []
  timers   : t.intents.timers = Vector.replicate 64 .stopped
  offer    : t.intents.offer = none
  sel      : t.sel = { offered := none, onWire := false, yieldFlag := false, yieldWait := .stopped }
  events   : t.events = { entries := [], attn := false, reading := none }
  port     : t.port = { phase := .deselected, buffer := [], bitCount := 0, response := [], shifted := 0 }

/-! ### The line -/

/-- The line becomes idle at a station that follows no frame whose delivery is still to come, and that has no frame of
its own on the line (R4, log 4). -/
def State.IdleComes (s : State) : Prop :=
  s.inReset = false ∧ s.line.rx ≠ .quiet ∧ s.line.undelivered = false ∧ s.line.ownOnLine = false

/-- The station has driven the SOF of its offered frame: the frame is fixed with the epoch as it stands, and it is on
the wire; the SOF clears the yield flag and ends the yield wait; the source knows it on the wire; nothing else changes
(R5, R10, R12, R130, R133, R141). -/
structure State.SofDriven (s t : State) (f : Offered) : Prop where
  line    : t.line =
    { rate := s.line.rate, tx := .contending, aborted := false,
      fixed := some { sender := s.ctrl.id, content := f.content s.epochValue },
      bitFault := false, rx := .body, reception := .following,
      assembly :=
        { code := none, sender := none, length := none, payload := [], crc := 0xFFFF, formatFault := false,
          errorFlag := false, slots := none }
      dominant := 0 }
  sel     : t.sel = { offered := some f, onWire := true, yieldFlag := false, yieldWait := .stopped }
  offer   : t.intents.offer = if f.source = .intents then some { frame := f, onWire := true } else s.intents.offer
  records : ∀ l, t.intent l =
    if f = .cancel l ∧ (s.intent l).outstanding.isSome then { s.intent l with outstanding := some .onWire } else s.intent l
  rest    : t = { s with line := t.line, sel := t.sel, intents :=
    { s.intents with offer := t.intents.offer, records := t.intents.records } }

/-- The choice of R126 where no frame is offered: the first frame available goes on the wire at once; where every frame available is held back, the yield wait starts (R131); where none is available, nothing happens, and a running
yield wait runs on (log 38). -/
def State.Chosen (s t : State) : Prop :=
  (∀ f, s.firstAvailable = some f → s.SofDriven t f) ∧
    (s.firstAvailable = none →
      t = { s with sel := if s.onlyHeldBack then { s.sel with yieldWait := .running } else s.sel })

/-- An intent ends with a lock event: it is IDLE with its wait timer stopped, the lock's entries leave the queue with the
rest in order, and its offered frame is withdrawn, each where it is not on the wire; nothing else changes (R136, R145,
R149, R150, R152). -/
structure State.GivesUp (s t : State) (l : LockId) (o : LockOutcome) : Prop where
  idle   : t.intent l = .idle
  others : ∀ k, k ≠ l → t.intent k = s.intent k
  queue  : t.intents.queue = (match s.intents.queue with
    | [] => []
    | e :: rest =>
        (if e.lock? = some l ∧ s.intents.offer ≠ some { frame := e.offer, onWire := true } then [] else [e]) ++
          rest.filter (fun e => e.lock? ≠ some l))
  timers : ∀ k, entryAt t.intents.timers k = if k = l then .stopped else entryAt s.intents.timers k
  event  : t.events = s.events.place (.lock l o)
  offer  :
    if s.sel.onWire = false ∧ ∃ f, s.sel.offered = some f ∧ f.lock? = some l then
      t.sel = { s.sel with offered := none } ∧ t.intents.offer = none
    else t.sel = s.sel ∧ t.intents.offer = s.intents.offer
  rest   : t = { s with sel := t.sel, intents := t.intents, events := t.events }

/-- An offer ended LOST or RETRY: the frame stays offered, off the wire, and its source acts on the report. The Intent
Unit records its frame off the wire (R141); an ACQUIRE with a cancel-after mark is given up (R152), and a CANCEL whose
intent is no longer CANCELLING is withdrawn (R153). An expiry of the join deadline held for a READY takes effect
(R89). Every other frame is kept as it is (R85, R90, R94, R106, Table 8-5). -/
def State.offerKept (s : State) (f : Offered) : State :=
  let off : State := { s with sel := { s.sel with onWire := false } }
  let told : State := { off with intents := { s.intents with offer := some { frame := f, onWire := false } } }
  match f with
  | .join | .genesis | .evict _ | .presence | .segment _ _ _ _ => off
  | .ready => if s.ctrl.deadlineHeld then off.requeueJoin else off
  | .release _ | .leave => told
  | .acquire l _ _ =>
      match (s.intent l).state, (s.intent l).mark with
      | .requesting, some cause => told.giveUpRequest l cause
      | _, _ => told
  | .cancel l =>
      let r := s.intent l
      if r.state = .cancelling then
        told.setIntent l (if r.outstanding.isSome then { r with outstanding := some .placed } else r)
      else
        { told with
          sel := { told.sel with offered := none },
          intents := { told.intents with offer := none } }.setIntent l { r with outstanding := none }

/-- A frame is delivered to the Commit Unit at this idle, and it is not discarded (R13, R14, R17, R35). -/
def State.Delivers (s : State) (slots : Slots) (d : Delivery) : Prop :=
  s.inReset = false ∧ s.line.aborted = false ∧ s.line.undelivered = true ∧
    (s.line.rx = .body → s.line.reception ≠ .abandoned) ∧ s.ctrl.station.silent = false ∧ s.delivery slots = d

/-! ### Joining again, and the donor's evaluation -/

/-- A delivery after which a joining station starts over: the table is discarded, the epoch is "none", the catch-up log
is closed and empty, an offered control frame off the wire is withdrawn, and JOIN is pending in SEEKING with one attempt
more; at a count of 4 the station is DETACHED in place of that, with every timer stopped and JOIN_FAILED (R96, R97). The
drive record is empty (log 17). -/
structure State.JoinsAgain (s t : State) : Prop where
  validity : t.table.validity = .none
  commit   : t.commit = { s.commit with epoch := none, drive := .empty }
  transfer : t.transfer = { s.transfer with phase := .closed, log := [], discards := 0, current := none }
  offer    : ∀ f, s.sel.offered = some f → f.source = .controller → s.sel.onWire = false → t.sel.offered = none
  again    : s.ctrl.attempts < 4 →
    t.ctrl =
      { s.ctrl with
        station := .seeking, control := some .join, attempts := s.ctrl.attempts + 1, evicts := 0,
        presencePending := false, firstContact := .stopped, joinDeadline := .stopped, deadlineHeld := false,
        contact := false } ∧
    t.events = s.events
  givenUp  : 4 ≤ s.ctrl.attempts →
    t.ctrl =
      { Controller.initial s.ctrl.id with
        attempts := s.ctrl.attempts, p := s.ctrl.p, k := s.ctrl.k, jmul := s.ctrl.jmul } ∧
    t.events = s.events.place (.station .joinFailed)

/-- A transfer in progress goes on beside the tables as they stand: its target is JOINING with its join epoch, and this
station is the donor (R108). -/
def State.Serves (t : State) (img : Image) : Prop :=
  entryAt t.table.members img.target = { status := .joining, joinEpoch := img.j } ∧
    donorOf t.table.members = some t.ctrl.id

/-- The donor side of an ACTIVE station at epoch `e` has made its evaluation, from the Transfer Unit `u` before it: the
served set keeps the pairs that still stand (R107); a transfer that can go on is left as it is, and any other one is
abandoned (R108); where none is in progress then, the donor captures the oldest JOINING entry that is not served, and
any other station starts nothing (R103, R104). The joiner side is left as it is. -/
structure State.Evaluated (u : TransferUnit) (e : Word16) (t : State) : Prop where
  served : t.transfer.served =
    u.served.filter (fun x =>
      decide (entryAt t.table.members x.station = { status := .joining, joinEpoch := x.joinEpoch }))
  stays  : ∀ img, u.donorPhase = .serving → u.image = some img → t.Serves img →
    t.transfer.donorPhase = .serving ∧ t.transfer.image = some img ∧ t.transfer.nextSegment = u.nextSegment
  starts : (u.donorPhase = .free ∨ ∃ img, u.donorPhase = .serving ∧ u.image = some img ∧ ¬ t.Serves img) →
    let next := oldestJoining t.table.members e
      (fun i => decide ({ station := i, joinEpoch := (entryAt t.table.members i).joinEpoch } ∉ t.transfer.served))
    (∀ x, donorOf t.table.members = some t.ctrl.id → next = some x →
      t.transfer.donorPhase = .serving ∧ t.transfer.nextSegment = 0 ∧
      t.transfer.image = some
        { members := t.table.members, locks := t.table.locks, e, target := x,
          j := (entryAt t.table.members x).joinEpoch }) ∧
    ((donorOf t.table.members ≠ some t.ctrl.id ∨ next = none) →
      t.transfer.donorPhase = .free ∧ t.transfer.image = if u.donorPhase = .serving then none else u.image)
  joiner : t.transfer.phase = u.phase ∧ t.transfer.log = u.log ∧ t.transfer.discards = u.discards ∧
    t.transfer.current = u.current

/-! ### Laws -/

/-- Every count is within the limit that its rule gives (R110, R112, R140, R33, R96, R6, R169). -/
structure State.WithinLimits (s : State) : Prop where
  queue    : s.intents.queue.length ≤ 8
  log      : s.transfer.log.length ≤ 32
  discards : s.transfer.discards ≤ 65535
  failures : s.commit.failures ≤ 16
  attempts : s.ctrl.attempts ≤ 4
  dominant : s.line.dominant ≤ 32
  shifted  : s.port.shifted ≤ s.port.response.length

/-- The law of the event queue: one entry for each key (R161), merged counts from 1 to 15 (R158, R160), ATTN asserted
while there is an entry (R166), and a read record that names the head, with a merge counted where its changed mark is
set (R163, R165). -/
structure EventQueue.Lawful (q : EventQueue) : Prop where
  oneEach : (q.entries.map EventRecord.key).Nodup
  merged  : ∀ r ∈ q.entries, 1 ≤ r.merged ∧ r.merged ≤ 15
  attn    : q.attn = true ↔ q.entries ≠ []
  reading : ∀ rd, q.reading = some rd →
    (∃ head rest, q.entries = head :: rest ∧ head.key = rd.key) ∧ rd.merges ≤ 15 ∧ (rd.changed = true → 1 ≤ rd.merges)

/-- The laws of one lock entry beside a membership table: the mode agrees with the holders, no station stands twice,
every party is ACTIVE, and the head cannot be granted (R42, R43, R46). -/
structure LockEntry.Lawful (members : Vector MemberEntry 16) (e : LockEntry) : Prop where
  free      : e.mode = .free → e.holders = 0 ∧ e.waiters = []
  shared    : e.mode = .shared → e.holders ≠ 0
  exclusive : e.mode = .exclusive → ∃ i, e.holders = single i
  once      : (e.waiters.map (·.station)).Nodup ∧ ∀ w ∈ e.waiters, e.holds w.station = false
  fit       : sizeOfSet e.holders + e.waiters.length ≤ 16
  parties   : ∀ i, (e.holds i = true ∨ e.waits i = true) → statusIn members i = .active
  head      : ∀ w rest, e.waiters = w :: rest → grantable e.mode w.mode = false

/-- The laws of R42, R43 and R46 for every lock. -/
def TableEngine.Lawful (t : TableEngine) : Prop := ∀ l, (entryAt t.locks l).Lawful t.members

end Machine

end Sys2Proof
end

