-- ==== Sys2Proof/WellFormed.lean ====
section
/-! DEFINITION. Which commands the rest of the world can send: the operands that the rules give each command.
`exec` is total and needs no well-formedness. -/

namespace Sys2Proof

open Machine

/-- The frame on the line can be followed to its last CRC cell: a listed kind, a LENGTH that the kind can have, and as
many payload bytes (R14, R16). -/
def RawFrame.wf (raw : RawFrame) : Bool := placeable raw

/-- The cells show an unknown kind or a length fault (R16). -/
def FlagCause.wf (cause : FlagCause) : Bool := (flagAssembly cause).isSome

/-- A command's operands are ones the spec gives it: BAD_COMMAND has an unknown code (R171), CRC_HANDOFF a frame whose
slots can be placed (R14), ERROR_FLAG one of the two faults of R16. Every other operand is free. -/
def Instr.wf : Instr → Bool
  | .badCommand code => (parameterCount code).isNone
  | .crcHandoff frame => frame.wf
  | .errorFlag cause => cause.wf
  | .nresetAssert | .nresetRelease _ | .powerUp _ _ | .ncsFall | .ncsRise | .status _ | .configure _ _ _ _ | .enter _
  | .leave _ | .detach _ | .acquireNoWaitLimit _ _ _ | .acquireWithWaitLimit _ _ _ _ | .release _ _ | .cancel _ _
  | .queryLock _ _ | .queryMembers _ | .readEvent _ | .readEventComplete | .lineIdle | .busStart | .arbitrationLost
  | .frameDelivery _ | .lineStuck | .presenceTimerExpiry | .silenceTimerExpiry _ | .firstContactExpiry
  | .joinDeadlineExpiry | .waitTimerExpiry _ | .yieldWaitExpiry | .missingEdge _ | .bitFaultDetected _
  | .byteComplete _ => true

end Sys2Proof
end

