-- ==== Sys2Proof/Certificates/Slice0/Obligations.lean ====
section
/-! DEFINITION. The statements for the provers, in the order of OBLIGATIONS.json. Each docstring names the rules of the
spec that the statement rests on, and the log entry of a choice of the model's that it shows. -/

open Sys2Proof Sys2Proof.Machine

/-! ### The machine -/

/-- One step carries out the command at the front of the queue with the rest still waiting. On an empty queue time
passes on the line: the model's choice (log 37). The transmit phase goes from CONTENDING to SENDING and from SLOTS to
ENDING, and the reception phase from VERDICT to CLOSING where no fault has stopped the reception (R4, R10, R18);
nothing else changes, and nothing at all while the part is held in reset (log 10). -/
def Obligations.StepTakesTheFrontCommand : Prop :=
  (∀ (c : Instr) (rest : List Instr) (s : State), s.pending = c :: rest → step s = exec c (s.setPending rest)) ∧
    ∀ s : State, s.pending = [] → step s = .next (
      if s.inReset then s
      else
        { s with line :=
            { s.line with
              tx := match s.line.tx with
                | .contending => .sending
                | .slots => .ending
                | phase => phase
              rx := if s.line.rx = .verdict ∧ s.line.reception = .following then .closing else s.line.rx } })

/-- Every command has a next state in every state, and no command changes the queue of waiting commands; so no run ever
stops. This is the model's choice and no rule of the spec: a command in a state in which the spec says it cannot occur
leaves the state as it is (log 2), and the queue is the model's own (log 1). -/
def Obligations.EveryCommandCompletes : Prop :=
  (∀ (c : Instr) (s : State), ∃ t, exec c s = .next t ∧ t.pending = s.pending) ∧ ∀ s : State, SafeFrom s

/-- What only its own rows change: the id, the bit rate and the reset pin, the reset pins (R1, R83, R178); P, K and Jmul,
CONFIGURE beside them, as its own row or as the byte that completes its check byte (R80, R169, R170, R177); the level of
nCS, its edges; and the Host Port, the edges of nCS, a byte, and a host command (R168, R169). Every other row leaves each
as it is. -/
def Obligations.RowsChangeOnlyTheirOwn : Prop :=
  ∀ (c : Instr) (s t : State), c.isReset = false → exec c s = .next t →
    t.ctrl.id = s.ctrl.id ∧ t.line.rate = s.line.rate ∧ t.inReset = s.inReset ∧
      ((∃ p k jmul check, c = .configure p k jmul check ∨
          (c = .byteComplete check ∧ s.port.phase = .command ∧ s.port.buffer = [0x02, p, k, jmul])) ∨
        (t.ctrl.p = s.ctrl.p ∧ t.ctrl.k = s.ctrl.k ∧ t.ctrl.jmul = s.ctrl.jmul)) ∧
      ((c = .ncsFall ∨ c = .ncsRise) ∨ t.ncsLow = s.ncsLow) ∧ (c.isPort = true ∨ t.port = s.port)

/-! ### Reset -/

/-- NRESET_RELEASE and POWER_UP sample the straps and start every block in its state of Table 10-4; nCS and the queue
of commands are no block's (R1, R178, R179). After a power-up with the pin low the part is still held. That a release
acts in a state that is not held in reset, that a power-up acts in every state, and that one with the pin low already
shows the straps of its operand, is the model's choice (log 11). -/
def Obligations.ReleaseOfResetStartsEveryBlock : Prop :=
  ∀ (straps : Straps) (low : Bool) (s : State),
    let rate : BitRate :=
      if straps.rate1 then (if straps.rate0 then .k1000 else .k500) else (if straps.rate0 then .k250 else .k125)
    (∃ t, exec (.nresetRelease straps) s = .next t ∧ t.AsAfterReset straps.id rate ∧ t.inReset = false ∧
        t.ncsLow = s.ncsLow ∧ t.pending = s.pending) ∧
      ∃ t, exec (.powerUp straps low) s = .next t ∧ t.AsAfterReset straps.id rate ∧ t.inReset = low ∧
        t.ncsLow = s.ncsLow ∧ t.pending = s.pending

/-- NRESET_ASSERT ends the own frame as R13 gives for its phase: in its slots it goes on as plain 1 cells, in every other
phase nothing more is driven. All else is held in its state of Table 10-4, and the part drives neither ATTN nor SDO. From
then until the release every command but those of the reset pins leaves it as it is; of an edge of nCS only the level of
the pin stays, and the idle after END ends the own frame's cells (R13, R178). That the id and the rate sampled last are
still shown, and the phase SLOTS until those cells end, is the model's choice (log 10). -/
def Obligations.AssertedResetHoldsThePart : Prop :=
  (∀ s : State, ∃ t, exec .nresetAssert s = .next t ∧
     { t with line := { t.line with tx := .idle, aborted := false } }.AsAfterReset s.ctrl.id s.line.rate ∧
     (s.line.tx = .slots →
       t.line.tx = .slots ∧ t.line.aborted = true ∧ t.closingCells = List.replicate 4 CellDrive.one) ∧
     (s.line.tx ≠ .slots → t.line.tx = .idle ∧ t.line.aborted = false ∧ t.closingCells = []) ∧
     t.inReset = true ∧ t.ncsLow = s.ncsLow ∧ t.sentBody = [] ∧ t.drivesFlag = false ∧ t.attnLow = false ∧
     t.sdoByte = none) ∧
  (∀ (c : Instr) (s : State), s.inReset = true → c.isReset = false →
     let ended : State :=
       { s with line :=
           { rate := s.line.rate, tx := .idle, aborted := false, fixed := none, bitFault := false, rx := .settling,
             reception := .following, assembly := .empty, dominant := 0 } }
     exec c s = .next (match c with
       | .ncsFall => s.setNcs true
       | .ncsRise => s.setNcs false
       | .lineIdle | .frameDelivery _ => if s.line.aborted then ended else s
       | _ => s))

/-- State.reset is the part right after a release of nRESET with all straps low, nCS high and nothing waiting (R179,
log 9), and it meets the laws that every step keeps. That the entries of a table of validity NONE are blank, and so
lawful, is the model's choice (log 12). -/
def Obligations.ResetMeetsTheLaws : Prop :=
  State.reset.AsAfterReset 0 .k125 ∧ State.reset.inReset = false ∧ State.reset.ncsLow = false ∧
    State.reset.pending = [] ∧ State.reset.events.Lawful ∧ State.reset.WithinLimits ∧ State.reset.table.Lawful

/-! ### Framing on the host port -/

/-- A falling edge of nCS starts a transaction in COMMAND with an empty shift buffer (R168, R169); a rising edge ends it
in whatever phase it is, and clears the read record of a READ_EVENT (R174). Nothing else changes. That a rising edge
empties the shift buffer and the response buffer, and that a falling edge empties the response buffer too, is
the model's choice (log 40). -/
def Obligations.NcsEdgesFrameTheTransaction : Prop :=
  (∀ s : State, s.inReset = false → s.ncsLow = false →
      exec .ncsFall s = .next
        { s with
          ncsLow := true,
          port := { phase := .command, buffer := [], bitCount := 0, response := [], shifted := 0 } }) ∧
    ∀ s : State, s.inReset = false → s.ncsLow = true →
      exec .ncsRise s = .next
        { s with
          ncsLow := false,
          port := { phase := .deselected, buffer := [], bitCount := 0, response := [], shifted := 0 },
          events := { s.events with reading := none } }

/-- A byte by its phase: nothing is taken in DESELECTED and TRAILING; the turnaround byte leads to RESPONSE; a response
byte is shifted out, and with the last one the phase is TRAILING and the read record is acted on (R164, R169). The byte
that the host reads is 0xFF in COMMAND and TRAILING, 0x00 in TURNAROUND, and the next byte of the buffer in RESPONSE. -/
def Obligations.ByteCompletesByPhase : Prop :=
  ∀ (b : Byte) (s : State), s.inReset = false →
    ((s.port.phase = .deselected ∨ s.port.phase = .trailing) → exec (.byteComplete b) s = .next s) ∧
    (s.port.phase = .turnaround →
      exec (.byteComplete b) s = .next { s with port := { s.port with phase := .response, bitCount := 0 } }) ∧
    (s.port.phase = .response → s.port.shifted + 1 < s.port.response.length →
      exec (.byteComplete b) s = .next { s with port := { s.port with shifted := s.port.shifted + 1, bitCount := 0 } }) ∧
    (s.port.phase = .response → s.port.response.length ≤ s.port.shifted + 1 →
      exec (.byteComplete b) s = .next
        { s with
          port := { s.port with phase := .trailing, shifted := s.port.response.length, bitCount := 0 },
          events := s.events.complete }) ∧
    s.sdoByte = (match s.port.phase with
      | .deselected => none
      | .command => some 0xFF
      | .turnaround => some 0x00
      | .response => s.port.response[s.port.shifted]?
      | .trailing => some 0xFF)

/-- The bytes of a host command clocked one by one, from the start of a transaction, leave what the command's own row
leaves, whether its check byte holds or not (R169, R170, R172). -/
def Obligations.BytesMakeTheCommand : Prop :=
  ∀ (c : Instr) (code : Byte) (params : List Byte) (check : Byte) (s : State),
    c.hostBytes = some (code, params, check) → s.inReset = false → s.port.phase = .command → s.port.buffer = [] →
    Host.Core.run Sys2Proof.core (params.length + 2)
        (s.setPending ((code :: params ++ [check]).map Instr.byteComplete ++ s.pending)) =
      exec c s

/-- Where a check byte does not bring the sum to 0 modulo 256 the command is not taken, no block changes, and BAD_CHECK
follows the turnaround byte (R170, R172). An unknown code byte at the start of a transaction takes nothing either, and
BAD_COMMAND follows; the byte itself, clocked, does the same (R171). -/
def Obligations.RejectedTransactionsTakeNothing : Prop :=
  (∀ (c : Instr) (code : Byte) (params : List Byte) (check : Byte) (s : State),
     c.hostBytes = some (code, params, check) → s.Hears code params → (code :: params).sum + check ≠ 0 →
     exec c s = .next (s.answered (code :: params) [0x0E])) ∧
  (∀ (code : Byte) (s : State), s.Hears code [] → s.port.buffer = [] →
     code ∉ ([0x01, 0x02, 0x03, 0x04, 0x05, 0x14, 0x15, 0x16, 0x17, 0x20, 0x21, 0x30] : List Byte) →
     exec (.badCommand code) s = .next (s.answered [code] [0x0F]) ∧
       exec (.byteComplete code) s = .next (s.answered [code] [0x0F]))

/-- A taken command with any status but OK changes no block's state and raises no event; only the port holds its answer
(R175). -/
def Obligations.RefusedCommandChangesNothing : Prop :=
  ∀ (c : Instr) (code : Byte) (params : List Byte) (check : Byte) (s t : State),
    c.hostBytes = some (code, params, check) → s.Takes code params check → exec c s = .next t →
    (∃ bytes, t.port.response = 0x00 :: bytes) ∨ ∃ bytes, t = s.answered (code :: params) bytes

/-! ### Host commands -/

/-- STATUS is taken in every state, changes no block, and answers OK and the eleven bytes of Table 12-10 (R176). -/
def Obligations.StatusReportsTheStation : Prop :=
  ∀ (check : Byte) (s : State), s.Takes 0x01 [] check →
    exec (.status check) s = .next (s.answered [0x01]
      [0x00,
       (match s.ctrl.station with
        | .detached => 0 | .seeking => 1 | .founding => 2 | .receiving => 3 | .synced => 4 | .active => 5 | .fault => 6),
       BitVec.ofNat 8 (16 * s.ctrl.id.val +
        (match s.line.rate with | .k125 => 0 | .k250 => 1 | .k500 => 2 | .k1000 => 3)),
       (match s.commit.epoch with | some _ => 1 | none => 0),
       (match s.commit.epoch with | some e => BitVec.ofNat 8 (e.toNat / 256) | none => 0),
       (match s.commit.epoch with | some e => BitVec.ofNat 8 (e.toNat % 256) | none => 0),
       (if s.table.validity = .complete then
          BitVec.ofNat 8 (allStations.countP (fun i => statusIn s.table.members i == .active)) else 0),
       BitVec.ofNat 8 s.events.entries.length,
       BitVec.ofNat 8 s.intents.queue.length,
       BitVec.ofNat 8 s.commit.failures,
       (match s.commit.lastFault with | .none => 0 | .rejectLimit => 1 | .lineStuck => 2),
       BitVec.ofNat 8 s.ctrl.attempts])

/-- CONFIGURE by the first answer that holds: WRONG_STATE out of DETACHED, RANGE, else all three values are set. The
response holds the values in force (R177). -/
def Obligations.ConfigureSetsAllThreeOrNone : Prop :=
  ∀ (p k jmul check : Byte) (s : State), s.Takes 0x02 [p, k, jmul] check →
    exec (.configure p k jmul check) s = .next (
      if s.ctrl.station ≠ .detached then
        s.answered [0x02, p, k, jmul] [0x01, s.ctrl.p, s.ctrl.k, s.ctrl.jmul]
      else if p.toNat < 2 ∨ 250 < p.toNat ∨ k.toNat < 3 ∨ 15 < k.toNat ∨ jmul.toNat < 16 then
        s.answered [0x02, p, k, jmul] [0x02, s.ctrl.p, s.ctrl.k, s.ctrl.jmul]
      else
        { s with ctrl := { s.ctrl with p, k, jmul } }.answered [0x02, p, k, jmul] [0x00, p, k, jmul])

/-- ENTER in DETACHED: SEEKING with JOIN pending and the count 1, then the choice of R126; on a stuck line FAULT at once
(R6, R84). In every other state WRONG_STATE. -/
def Obligations.EnterStartsSeeking : Prop :=
  ∀ (check : Byte) (s : State), s.Takes 0x03 [] check →
    let seeking := { s with ctrl := { s.ctrl with station := .seeking, attempts := 1, control := some .join } }
    exec (.enter check) s = .next (
      if s.ctrl.station ≠ .detached then s.answered [0x03] [0x01]
      else if 32 ≤ s.line.dominant then (seeking.enterFault .lineStuck).answered [0x03] [0x00]
      else seeking.choose.answered [0x03] [0x00])

/-- LEAVE by the first answer that holds; taken, it sets leave-pending and appends a LEAVE entry at the tail, and the
choice of R126 follows (R98). -/
def Obligations.LeaveQueuesItsFrame : Prop :=
  ∀ (check : Byte) (s : State), s.Takes 0x04 [] check →
    exec (.leave check) s = .next (
      if s.ctrl.station ≠ .active then s.answered [0x04] [0x01]
      else if s.ctrl.leavePending then s.answered [0x04] [0x03]
      else if 8 ≤ s.intents.queue.length then s.answered [0x04] [0x06]
      else
        { s with
          ctrl := { s.ctrl with leavePending := true },
          intents := { s.intents with queue := s.intents.queue ++ [QueueEntry.leave] } }.choose.answered [0x04] [0x00])

/-- DETACH answers OK. In DETACHED it changes nothing else. In any other state it gives up the table, the epoch, the
intents (each that is not IDLE with a LOST event, in ascending lock order), the transfers, the pending frames, the
timers and the offered frame, and keeps the last fault cause, the configured values and the event queue (R13, R101,
R137, R154). That the transmit phase of a frame aborted in ENDING stays until the idle is read from R10 (log 32); that
the drive record empties then is the model's reading of R19 (log 17). -/
def Obligations.DetachGivesUpThePlace : Prop :=
  ∀ (check : Byte) (s : State), s.Takes 0x05 [] check →
    (s.ctrl.station = .detached → exec (.detach check) s = .next (s.answered [0x05] [0x00])) ∧
    (s.ctrl.station ≠ .detached → ∃ t, exec (.detach check) s = .next t ∧
      t.port = { phase := .turnaround, buffer := [0x05], bitCount := 0, response := [0x00], shifted := 0 } ∧
      t.commit = { s.commit with epoch := none, failures := 0, drive := .empty } ∧
      t.table.validity = .none ∧ t.transfer = .initial ∧ t.intents = .initial ∧ t.sel = .initial ∧
      t.ctrl = { Controller.initial s.ctrl.id with p := s.ctrl.p, k := s.ctrl.k, jmul := s.ctrl.jmul } ∧
      t.events = (allLocks.filter (fun l => (s.intent l).state ≠ .idle)).foldl (fun q l => q.place (.lock l .lost)) s.events ∧
      t.line = (match s.line.tx with
        | .slots | .ending => { s.line with aborted := true, fixed := none }
        | _ => { s.line with tx := .idle, fixed := none }) ∧
      t.free = s.free ∧ t.pending = s.pending ∧ t.ncsLow = s.ncsLow)

/-- ACQUIRE, with and without a wait limit, by the first answer that holds. Taken, it makes the intent REQUESTING with
the command's mode, TRY flag and wait limit, appends its entry, starts the wait timer where the limit is not 0, and the
choice of R126 follows; no event is raised (R143). -/
def Obligations.AcquireIsAnsweredInOrder : Prop :=
  ∀ (lock mode check : Byte) (limit : Word16) (s : State),
    let answer (cmd : List Byte) (limit : Word16) : State :=
      if s.ctrl.station ≠ .active then s.answered cmd [0x01]
      else if s.ctrl.leavePending then s.answered cmd [0x01]
      else if h : lock.toNat < 64 then
        if mode ≠ 0x00 ∧ mode ≠ 0x01 ∧ mode ≠ 0x80 ∧ mode ≠ 0x81 then s.answered cmd [0x02]
        else
          let l : LockId := ⟨lock.toNat, h⟩
          let m : Mode := if mode.getLsbD 0 then .exclusive else .shared
          let try_ : Bool := mode.getLsbD 7
          if (s.intent l).state ≠ .idle then s.answered cmd [0x03]
          else if 8 ≤ s.intents.queue.length then s.answered cmd [0x06]
          else
            { s with
              intents :=
                { s.intents with
                  records := s.intents.records.set l.val
                    { state := .requesting, mode := some m, tryFlag := some try_, waitLimit := some limit,
                      cause := none, mark := none, token := none, outstanding := none }
                  queue := s.intents.queue ++ [QueueEntry.acquire l m try_]
                  timers := if limit = 0 then s.intents.timers else s.intents.timers.set l.val .running } }.choose.answered
              cmd [0x00]
      else s.answered cmd [0x02]
    (s.Takes 0x14 [lock, mode] check →
        exec (.acquireNoWaitLimit lock mode check) s = .next (answer [0x14, lock, mode] 0)) ∧
      (s.Takes 0x15 [lock, mode, hiByte limit, loByte limit] check →
        exec (.acquireWithWaitLimit lock mode limit check) s =
          .next (answer [0x15, lock, mode, hiByte limit, loByte limit] limit))

/-- RELEASE by the first answer that holds. Taken, it makes the intent RELEASING with its other fields kept, appends a
RELEASE entry at the tail, and the choice of R126 follows (R144). -/
def Obligations.ReleaseIsAnsweredInOrder : Prop :=
  ∀ (lock check : Byte) (s : State), s.Takes 0x16 [lock] check →
    exec (.release lock check) s = .next (
      if s.ctrl.station ≠ .active then s.answered [0x16, lock] [0x01]
      else if h : lock.toNat < 64 then
        let l : LockId := ⟨lock.toNat, h⟩
        if (s.intent l).state ≠ .held then s.answered [0x16, lock] [0x04]
        else if 8 ≤ s.intents.queue.length then s.answered [0x16, lock] [0x06]
        else
          { s with
            intents :=
              { s.intents with
                records := s.intents.records.set l.val { s.intent l with state := .releasing }
                queue := s.intents.queue ++ [QueueEntry.release l] } }.choose.answered [0x16, lock] [0x00]
      else s.answered [0x16, lock] [0x02])

/-- CANCEL by Table 8-2: it makes a WAITING intent CANCELLING with its CANCEL due, marks an ACQUIRE that is on the wire,
gives up one that is not, and is refused NOT_WAITING in every other case; after a taken one the choice of R126 follows
(R145). A request given up leaves nothing off the wire: the placed frame is withdrawn, the entries of the lock leave the
queue with the rest in order, the intent is IDLE with its wait timer stopped, and CANCELLED is raised for the cause HOST,
TIMED_OUT for TIMEOUT; nothing else changes (R136, R145, R150, R152). -/
def Obligations.CancelFollowsTable8_2 : Prop :=
  ((∀ (lock check : Byte) (s : State), s.Takes 0x17 [lock] check →
     exec (.cancel lock check) s = .next (
       if s.ctrl.station ≠ .active then s.answered [0x17, lock] [0x01]
       else if h : lock.toNat < 64 then
         let l : LockId := ⟨lock.toNat, h⟩
         match (s.intent l).state with
         | .waiting =>
             (s.setIntent l
               { s.intent l with state := .cancelling, cause := some .host, outstanding := some .due }).choose.answered
                 [0x17, lock] [0x00]
         | .requesting =>
             if s.acquireOnWire l then
               if (s.intent l).mark = none then
                 (s.setIntent l { s.intent l with mark := some .host }).choose.answered [0x17, lock] [0x00]
               else s.answered [0x17, lock] [0x05]
             else (s.giveUpRequest l .host).choose.answered [0x17, lock] [0x00]
         | _ => s.answered [0x17, lock] [0x05]
       else s.answered [0x17, lock] [0x02])) ∧
   ∀ (l : LockId) (s : State),
     s.acquireOnWire l = true ↔ ∃ m try_, s.intents.offer = some { frame := .acquire l m try_, onWire := true }) ∧
  ∀ (l : LockId) (cause : CancelCause) (s : State),
    s.GivesUp (s.giveUpRequest l cause) l (match cause with | .host => .cancelled | .timeout => .timedOut)

/-- QUERY_LOCK answers RANGE above lock 63, NO_TABLE without a COMPLETE table, each with thirty zero bytes, and else OK
with the thirty bytes of Table 12-11. It changes no block (R61, R62, R63). -/
def Obligations.QueryLockShowsTheEntry : Prop :=
  ∀ (lock check : Byte) (s : State), s.Takes 0x20 [lock] check →
    (64 ≤ lock.toNat →
      exec (.queryLock lock check) s = .next (s.answered [0x20, lock] (0x02 :: List.replicate 30 0))) ∧
    (lock.toNat < 64 → s.table.validity ≠ .complete →
      exec (.queryLock lock check) s = .next (s.answered [0x20, lock] (0x07 :: List.replicate 30 0))) ∧
    ∀ (h : lock.toNat < 64) (epoch : Word16), s.table.validity = .complete → s.commit.epoch = some epoch →
      let e := entryAt s.table.locks ⟨lock.toNat, h⟩
      let r := s.intent ⟨lock.toNat, h⟩
      let hi (w : Word16) : Byte := BitVec.ofNat 8 (w.toNat / 256)
      let lo (w : Word16) : Byte := BitVec.ofNat 8 (w.toNat % 256)
      let bit (b : Bool) (n : Nat) : Nat := if b then n else 0
      exec (.queryLock lock check) s = .next (s.answered [0x20, lock]
        ([0x00, lock, hi epoch, lo epoch,
          (match e.mode with | .free => 0 | .shared => 1 | .exclusive => 2),
          hi e.holders, lo e.holders, hi e.grants, lo e.grants, BitVec.ofNat 8 e.waiters.length] ++
         (List.range 15).map (fun i =>
            match e.waiters[i]? with
            | some w => BitVec.ofNat 8 ((match w.mode with | .shared => 0 | .exclusive => 16) + w.station.val)
            | none => 0xFF) ++
         [(match r.state with
           | .idle => 0 | .requesting => 1 | .waiting => 2 | .held => 3 | .releasing => 4 | .cancelling => 5),
          BitVec.ofNat 8
            (bit (r.mode == some .exclusive) 1 + bit (r.tryFlag == some true) 2 + bit r.cause.isSome 4 +
              bit (r.cause == some .timeout) 8 + bit r.mark.isSome 16 + bit (r.mark == some .timeout) 32 +
              bit r.token.isSome 64),
          hi (r.waitLimit.getD 0), lo (r.waitLimit.getD 0), hi (r.token.getD 0), lo (r.token.getD 0)]))

/-- QUERY_MEMBERS answers NO_TABLE with fifty-two zero bytes without a COMPLETE table, and else OK with the bytes of
Table 12-13: epoch, donor, member count, sixteen records. It changes no block (R82). -/
def Obligations.QueryMembersShowsTheTable : Prop :=
  ∀ (check : Byte) (s : State), s.Takes 0x21 [] check →
    (s.table.validity ≠ .complete →
      exec (.queryMembers check) s = .next (s.answered [0x21] (0x07 :: List.replicate 52 0))) ∧
    ∀ epoch : Word16, s.table.validity = .complete → s.commit.epoch = some epoch →
      let hi (w : Word16) : Byte := BitVec.ofNat 8 (w.toNat / 256)
      let lo (w : Word16) : Byte := BitVec.ofNat 8 (w.toNat % 256)
      exec (.queryMembers check) s = .next (s.answered [0x21]
        ([0x00, hi epoch, lo epoch,
          (match donorOf s.table.members with | some i => BitVec.ofNat 8 i.val | none => 0xFF),
          BitVec.ofNat 8 (allStations.countP (fun i => statusIn s.table.members i == .active))] ++
         allStations.flatMap (fun i =>
            [(match statusIn s.table.members i with | .absent => 0 | .joining => 1 | .active => 2),
             hi (entryAt s.table.members i).joinEpoch, lo (entryAt s.table.members i).joinEpoch])))

/-- READ_EVENT on an empty queue answers EMPTY and ten zero bytes and makes no read record. Otherwise it answers OK and
the head entry's ten bytes (Table 12-14), makes a read record for its key, and removes nothing (R163). -/
def Obligations.ReadEventCapturesTheHead : Prop :=
  ∀ (check : Byte) (s : State), s.Takes 0x30 [] check →
    (s.events.entries = [] →
      exec (.readEvent check) s = .next (s.answered [0x30] (0x08 :: List.replicate 10 0))) ∧
    ∀ head rest, s.events.entries = head :: rest →
      exec (.readEvent check) s = .next
        ({ s with events := { s.events with reading := some { key := head.key, changed := false, merges := 0 } } }.answered
          [0x30]
          (0x00 :: match head.event with
            | .lock l o =>
                BitVec.ofNat 8 l.val ::
                  match o with
                  | .granted m token overtaken =>
                      [1, (match m with | .shared => 0 | .exclusive => 1), BitVec.ofNat 8 (token.toNat / 256),
                       BitVec.ofNat 8 (token.toNat % 256), 0, if overtaken then 1 else 0,
                       BitVec.ofNat 8 head.merged, 0, 0]
                  | .queued m place =>
                      [2, (match m with | .shared => 0 | .exclusive => 1), 0, 0, BitVec.ofNat 8 place, 0,
                       BitVec.ofNat 8 head.merged, 0, 0]
                  | .denied => [3, 0, 0, 0, 0, 0, BitVec.ofNat 8 head.merged, 0, 0]
                  | .released => [4, 0, 0, 0, 0, 0, BitVec.ofNat 8 head.merged, 0, 0]
                  | .cancelled => [5, 0, 0, 0, 0, 0, BitVec.ofNat 8 head.merged, 0, 0]
                  | .timedOut => [6, 0, 0, 0, 0, 0, BitVec.ofNat 8 head.merged, 0, 0]
                  | .lost => [7, 0, 0, 0, 0, 0, BitVec.ofNat 8 head.merged, 0, 0]
            | .station e =>
                let count : Byte := BitVec.ofNat 8 head.merged
                match e with
                | .joined => [0x81, 0, 0, 0, 0, 0, 0, count, 0, 0]
                | .left => [0x82, 0, 0, 0, 0, 0, 0, count, 0, 0]
                | .evicted => [0x83, 0, 0, 0, 0, 0, 0, count, 0, 0]
                | .outOfStep => [0x84, 0, 0, 0, 0, 0, 0, count, 0, 0]
                | .fault cause =>
                    [0x85, (match cause with | .none => 0 | .rejectLimit => 1 | .lineStuck => 2), 0, 0, 0, 0, 0, count, 0, 0]
                | .joinFailed => [0x86, 0, 0, 0, 0, 0, 0, count, 0, 0]
                | .membersChanged active =>
                    [0x87, 0, 0, 0, 0, 0, 0, count, BitVec.ofNat 8 (active.toNat / 256),
                     BitVec.ofNat 8 (active.toNat % 256)]))

/-- READ_EVENT_COMPLETE: the response has been shifted out, and the phase is TRAILING. With the changed mark clear the
head entry is removed, and ATTN is released where it was the last; with the mark set the entry stays with the merges
since capture as its count. The read record is cleared (R164, R169). That the row may stand for bytes not clocked one
by one is the model's choice (log 8). -/
def Obligations.CompletedReadRemovesTheHead : Prop :=
  ∀ (s : State) (rd : ReadRecord) (head : EventRecord) (rest : List EventRecord),
    s.inReset = false → (s.port.phase = .turnaround ∨ s.port.phase = .response) → s.events.reading = some rd →
    s.events.entries = head :: rest →
    exec .readEventComplete s = .next
      { s with
        port := { s.port with phase := .trailing, bitCount := 0, shifted := s.port.response.length },
        events :=
          if rd.changed then
            { s.events with entries := { head with merged := rd.merges } :: rest, reading := none }
          else { entries := rest, attn := decide (rest ≠ []), reading := none } }

/-! ### Events -/

/-- Placing an event. Without an entry under its key, one is appended at the tail with merged count 1, and ATTN is
asserted. With one, the entry keeps its place, takes the event's fields, and its merged count rises to at most 15; a
read record for the key takes the changed mark, and its merges rise to at most 15. Every other entry stays as it is
(R160, R165, R166). -/
def Obligations.EventsMergeUnderTheirKey : Prop :=
  ∀ (ev : Event) (q : EventQueue),
    ((∀ r ∈ q.entries, r.key ≠ ev.key) →
      q.place ev = { q with entries := q.entries ++ [{ event := ev, merged := 1 }], attn := true }) ∧
    ∀ (front : List EventRecord) (r : EventRecord) (back : List EventRecord),
      q.entries = front ++ r :: back → r.key = ev.key → (∀ x ∈ front ++ back, x.key ≠ ev.key) →
      q.place ev =
        { q with
          entries := front ++ { event := ev, merged := min (r.merged + 1) 15 } :: back,
          reading := q.reading.map (fun rd =>
            if rd.key = ev.key then { rd with changed := true, merges := min (rd.merges + 1) 15 } else rd) }

/-! ### The line -/

/-- LINE_IDLE: the Line Unit is QUIET with nothing assembled and no own frame on the line; a frame on offer goes on the
wire at once, and without one the selector chooses (R4, R5, R126). That a choice with nothing available leaves a running
yield wait running is the model's choice (log 38). -/
def Obligations.IdleLineStartsTheNextOffer : Prop :=
  ∀ s : State, s.IdleComes →
    let idle : State :=
      { s with line :=
          { s.line with rx := .quiet, reception := .following, assembly := .empty, dominant := 0, tx := .idle,
                        aborted := false } }
    (∀ f, s.sel.offered = some f → ∃ t, exec .lineIdle s = .next t ∧ idle.SofDriven t f) ∧
      (s.sel.offered = none → ∃ t, exec .lineIdle s = .next t ∧ idle.Chosen t)

/-- BUS_START in QUIET: a station without an offered frame receives the frame, and its yield flag and yield wait are
cleared; one with an offered frame joins the bus start with it (R5, R130). -/
def Obligations.BusStartReceivesOrJoins : Prop :=
  ∀ s : State, s.inReset = false → s.line.rx = .quiet →
    (s.sel.offered = none →
      exec .busStart s = .next
        { s with
          line := { s.line with rx := .body, reception := .following, assembly := .empty, dominant := 0 },
          sel := { s.sel with yieldFlag := false, yieldWait := .stopped } }) ∧
    ∀ f, s.sel.offered = some f → ∃ t, exec .busStart s = .next t ∧ s.SofDriven t f

/-- The selector chooses only on an idle line without an offered frame (R126, R129). At YIELD_WAIT_EXPIRY on an idle
line the yield flag clears, the wait stops, and the selector chooses at once (R131). That a choice with nothing available
leaves a running yield wait running is the model's choice (log 38). -/
def Obligations.ChoiceNeedsAnIdleLine : Prop :=
  (∀ s : State,
     ((s.line.rx ≠ .quiet ∨ s.sel.offered ≠ none) → s.choose = s) ∧
       (s.line.rx = .quiet → s.sel.offered = none → s.Chosen s.choose)) ∧
  (∀ s : State, s.inReset = false → s.sel.yieldWait = .running → s.line.rx = .quiet → s.sel.offered = none →
     ∃ t, exec .yieldWaitExpiry s = .next t ∧
       { s with sel := { s.sel with yieldFlag := false, yieldWait := .stopped } }.Chosen t)

/-- The order of sources (Table 7-1): control frame, EVICT of the lowest target, segment, PRESENCE, CANCEL of the
lowest lock, head of the request queue; with the yield flag set no frame of the request class is taken, and nothing
else is passed over (R127, R128, R131). The segment is the one with the next segment index of the image, with the
image's target, E and J, while the donor side is SERVING, and there is none while it is FREE (R106): segment 0 carries
the sixteen membership records, and segment k, from 1 to 32, the entries of locks 2k - 2 and 2k - 1 (R105). An offered
frame becomes the frame of its kind with its own fields, and with the epoch as it stands where the kind has an epoch
field (R10, R132). -/
def Obligations.SourcesAreTakenInOrder : Prop :=
  (∀ (s : State) (f : Offered),
    s.firstAvailable = some f ↔
      (s.ctrl.control = some .join ∧ f = .join) ∨
      (s.ctrl.control = some .genesis ∧ f = .genesis) ∨
      (s.ctrl.control = some .ready ∧ f = .ready) ∨
      (s.ctrl.control = none ∧
        ((∃ x, f = .evict x ∧ inSet s.ctrl.evicts x = true ∧ ∀ y, y < x → inSet s.ctrl.evicts y = false) ∨
         ((∀ x, inSet s.ctrl.evicts x = false) ∧
          (s.transfer.offer = some f ∨
           (s.transfer.offer = none ∧
            ((s.ctrl.presencePending = true ∧ f = .presence) ∨
             (s.ctrl.presencePending = false ∧
              ((s.sel.yieldFlag = false ∧ ∃ l, f = .cancel l ∧ (s.intent l).outstanding = some .due ∧
                  ∀ k, k < l → (s.intent k).outstanding ≠ some .due) ∨
               ((s.sel.yieldFlag = true ∨ ∀ l, (s.intent l).outstanding ≠ some .due) ∧
                ((∃ rest l m y, s.intents.queue = .acquire l m y :: rest ∧ f = .acquire l m y ∧ s.sel.yieldFlag = false) ∨
                 (∃ rest l, s.intents.queue = .release l :: rest ∧ f = .release l ∧ s.sel.yieldFlag = false) ∨
                 (∃ rest, s.intents.queue = .leave :: rest ∧ f = .leave)))))))))))) ∧
  (∀ u : TransferUnit,
    (∀ img, u.donorPhase = .serving → u.image = some img →
      u.offer = some (.segment img.target img.e img.j (img.segment u.nextSegment))) ∧
    (u.donorPhase = .free → u.offer = none)) ∧
  (∀ img : Image,
    img.segment 0 = .members img.members ∧
    ∀ (k : Fin 33) (h : 1 ≤ k.val),
      img.segment k =
        .locks ⟨k.val - 1, by omega⟩ (entryAt img.locks ⟨2 * k.val - 2, by omega⟩)
          (entryAt img.locks ⟨2 * k.val - 1, by omega⟩)) ∧
  ∀ (f : Offered) (epoch : Word16),
    f.content epoch = (match f with
      | .join => .join
      | .genesis => .genesis
      | .ready => .ready epoch
      | .evict x => .evict epoch x
      | .segment target e j segment => .snapshot target e j segment
      | .presence => .presence epoch
      | .cancel l => .cancel epoch l
      | .acquire l m y => .acquire epoch l m y
      | .release l => .release epoch l
      | .leave => .leave epoch)

/-- ARBITRATION_LOST: the contender becomes a receiver of the frame, a bit fault it has taken is forgotten, and the offer
has ended LOST: the frame stays offered, off the wire, and its source acts on the report (R11, R12, R134). -/
def Obligations.LostArbitrationKeepsTheOffer : Prop :=
  ∀ (s : State) (f : Offered), s.inReset = false → s.line.tx = .contending → s.sel.offered = some f →
    exec .arbitrationLost s = .next
      ({ s with line := { s.line with tx := .idle, fixed := none, bitFault := false } }.offerKept f)

/-- CRC_HANDOFF of another station's frame, by Table 2-1: REJECT on a format fault, at an ACTIVE station the answer to an
epoch-bearing frame and DISSENT to a GENESIS, and nothing else; a DETACHED or FAULT station drives nothing (R14, R15,
R19). CRC_HANDOFF of the own frame: it is in its slots, and the drive record holds REJECT where the bit-fault mark is set
and nothing otherwise; the frame is the one fixed at SOF, whatever the operand shows (R10, R12, R21; log 30). -/
def Obligations.HandOffOfTheCrcDecidesTheDrive : Prop :=
  (∀ (raw : RawFrame) (s : State), s.inReset = false → s.line.followsBody = true → s.line.inBody = false → raw.wf = true →
     ∃ t, exec (.crcHandoff raw) s = .next t ∧
       t = { s with line := t.line, commit := { s.commit with drive := t.commit.drive } } ∧
       t.line =
         { s.line with
           rx := .verdict,
           assembly :=
             { code := some raw.code, sender := some raw.sender, length := some raw.length, payload := raw.payload,
               crc := crcOf raw.code raw.sender raw.length raw.payload, formatFault := formatFaultOf raw s.ctrl.id,
               errorFlag := false, slots := none } } ∧
       t.commit.drive = (match s.ctrl.station with
         | .detached | .fault => { reject := false, agree := false, dissent := false }
         | .seeking | .founding | .receiving | .synced =>
             { reject := formatFaultOf raw s.ctrl.id, agree := false, dissent := false }
         | .active =>
             if formatFaultOf raw s.ctrl.id then { reject := true, agree := false, dissent := false }
             else
               match contentOf raw with
               | none => { reject := true, agree := false, dissent := false }
               | some c =>
                   match c.kind with
                   | .genesis => { reject := false, agree := false, dissent := true }
                   | .join | .snapshot => { reject := false, agree := false, dissent := false }
                   | _ =>
                       { reject := false, agree := s.epochCheck raw.sender c, dissent := !s.epochCheck raw.sender c })) ∧
  (∀ (raw : RawFrame) (s : State), s.inReset = false → s.line.followsBody = true → s.line.inBody = true →
     exec (.crcHandoff raw) s = .next
       { s with
         line := { s.line with tx := .slots, rx := .verdict },
         commit := { s.commit with drive := { reject := s.line.bitFault, agree := false, dissent := false } } })

/-- An ACTIVE station answers an epoch-bearing frame without a format fault by two tests: its epoch field equals this
station's epoch, and its sender has the status that the kind requires, JOINING for READY and ACTIVE for the six others.
It drives AGREE where both hold and DISSENT otherwise (R20). -/
def Obligations.ActiveStationTestsEpochAndSender : Prop :=
  ∀ (raw : RawFrame) (s t : State) (c : Content) (epoch own : Word16), s.inReset = false → s.line.followsBody = true →
    s.line.inBody = false → raw.wf = true → s.ctrl.station = .active → s.commit.epoch = some own →
    formatFaultOf raw s.ctrl.id = false → contentOf raw = some c →
    ((∃ x, c = .evict epoch x) ∨ c = .leave epoch ∨ c = .ready epoch ∨ (∃ l m y, c = .acquire epoch l m y) ∨
      (∃ l, c = .release epoch l) ∨ (∃ l, c = .cancel epoch l) ∨ c = .presence epoch) →
    exec (.crcHandoff raw) s = .next t →
    let required : MemberStatus := if c = .ready epoch then .joining else .active
    let holds : Bool := decide (epoch = own ∧ (entryAt s.table.members raw.sender).status = required)
    t.commit.drive = { reject := false, agree := holds, dissent := !holds }

/-- BIT_FAULT_DETECTED: the bit-fault mark is set in SOF, the arbitration field and the body, and the frame goes on as
fixed; from the first LENGTH cell on the station is SENDING; a station that is not sending takes no bit fault (R10,
R12; log 2, log 3). ERROR_FLAG at a receiver that finds an unknown kind or a length fault: it drives its flag and
follows the cells no further (R16); a DETACHED or FAULT station drives none, and its place in the frame is lost, the
model's choice (log 15). At the frame's sender the flag is a bit fault (R12, R16; log 16). -/
def Obligations.BitFaultsAndErrorFlags : Prop :=
  (∀ (cell : FaultCell) (s : State), s.inReset = false →
     exec (.bitFaultDetected cell) s = .next (match cell, s.line.tx with
       | .arbitration, .contending => { s with line := { s.line with bitFault := true } }
       | .body, .contending => { s with line := { s.line with bitFault := true, tx := .sending } }
       | .body, .sending => { s with line := { s.line with bitFault := true } }
       | _, _ => s)) ∧
  (∀ (cause : FlagCause) (s : State), s.inReset = false → s.line.followsBody = true → cause.wf = true →
     (s.line.inBody = true →
       exec (.errorFlag cause) s = .next { s with line := { s.line with bitFault := true, tx := .sending } }) ∧
     (s.line.inBody = false → s.ctrl.station.silent = false →
       exec (.errorFlag cause) s = .next { s with line := { s.line with assembly :=
         match cause with
         | .unknownKind code => { Assembly.empty with code := some code, formatFault := true, errorFlag := true }
         | .lengthFault code sender length =>
             { Assembly.empty with code := some code, sender := some sender, length := some length,
                                   formatFault := true, errorFlag := true } } }) ∧
     (s.line.inBody = false → s.ctrl.station.silent = true → ∃ t, exec (.errorFlag cause) s = .next t ∧
       t = { s with line := t.line } ∧ t.drivesFlag = false ∧
         t.line = { s.line with reception := .lostPlace, assembly := t.line.assembly }))

/-- MISSING_EDGE and the other line faults by the phase that meets them. All of them but an END sampled dominant show a
recessive level, which sets the dominant count to 0 in every phase (R6). In BODY, at a receiver that has flagged nothing,
a missing edge abandons the reception and a framing fault, or an edge after it, loses the place (R17). In VERDICT and
CLOSING a fault that R18 names is a slot fault; END has been sampled where the fault shows it (R4, R10). A sender in
its body and a station that has flagged the frame follow no edges (log 2). That the row carries a plain recessive level
too is the model's choice (log 6). -/
def Obligations.LineFaultsByPhase : Prop :=
  ∀ (met : LineFault) (s : State), s.inReset = false → ∃ t, exec (.missingEdge met) s = .next t ∧
    let seen : LineUnit := { s.line with dominant := if met = .endDominant then s.line.dominant else 0 }
    t = { s with line := t.line } ∧
    ((s.line.rx = .settling ∨ s.line.rx = .quiet) → t.line = seen) ∧
    (s.line.rx = .body → (s.line.inBody = true ∨ s.line.assembly.errorFlag = true) → t.line = seen) ∧
    (s.line.rx = .body → s.line.inBody = false → s.line.assembly.errorFlag = false →
      t.line = { seen with reception :=
        match s.line.reception, met with
        | .following, .missingEdge => .abandoned
        | .following, .framingFault => .lostPlace
        | .abandoned, .framingFault => .lostPlace
        | r, _ => r }) ∧
    (s.line.rx = .verdict → s.line.reception = .following →
      t.line = (match met with
        | .recessive => seen
        | .missingEdge | .framingFault => { seen with reception := .slotFault }
        | .endDominant | .closingEdge =>
            { seen with
              reception := .slotFault, rx := .closing, tx := if s.line.tx = .slots then .ending else s.line.tx })) ∧
    (s.line.rx = .closing → s.line.reception = .following →
      t.line = { seen with reception :=
        match met with
        | .framingFault | .closingEdge => .slotFault
        | .recessive | .missingEdge | .endDominant => .following })

/-- LINE_STUCK below a count of 32: the count stands at 32, a reception is abandoned without a delivery, and the phase is
SETTLING; a DETACHED or FAULT station does nothing more, any other enters FAULT, once in one dominant stretch (R6, R34).
Entry into FAULT: the cause is recorded, the epoch is "none" and the count kept; the own frame is aborted by its phase
and nothing is on offer; the table, the transfers, the intents (each that is not IDLE with a LOST event, in ascending
lock order) and the pending frames are given up, every timer stops, the join-attempt count is kept, and the FAULT event
comes last (R13, R34, R102, R137, R154, R162). That the transmit phase of a frame aborted in ENDING stays until the idle
is read from R10 (log 32); that the drive record empties then is the model's reading of R19 (log 17). -/
def Obligations.StuckLineLeadsToFault : Prop :=
  (∀ s : State, s.inReset = false →
     let stuck : State :=
       { s with line :=
           { s.line with dominant := 32, rx := .settling, reception := .following, assembly := .empty } }
     (32 ≤ s.line.dominant → exec .lineStuck s = .next s) ∧
     (s.line.dominant < 32 → s.ctrl.station.silent = true → exec .lineStuck s = .next stuck) ∧
     (s.line.dominant < 32 → s.ctrl.station.silent = false → exec .lineStuck s = .next (stuck.enterFault .lineStuck))) ∧
  (∀ (cause : FaultCause) (s : State), ∃ t, s.enterFault cause = t ∧
     t.commit = { epoch := none, failures := s.commit.failures, lastFault := cause, drive := .empty } ∧
     t.table.validity = .none ∧ t.transfer = .initial ∧ t.intents = .initial ∧ t.sel = .initial ∧
     t.ctrl =
       { Controller.initial s.ctrl.id with
         station := .fault, attempts := s.ctrl.attempts, p := s.ctrl.p, k := s.ctrl.k, jmul := s.ctrl.jmul } ∧
     t.events =
       ((allLocks.filter (fun l => (s.intent l).state ≠ .idle)).foldl (fun q l => q.place (.lock l .lost)) s.events).place
         (.station (.fault cause)) ∧
     t.line = (match s.line.tx with
       | .slots | .ending => { s.line with aborted := true, fixed := none }
       | _ => { s.line with tx := .idle, fixed := none }) ∧
     t = { s with line := t.line, commit := t.commit, table := t.table, transfer := t.transfer, ctrl := t.ctrl,
                  intents := t.intents, sel := t.sel, events := t.events })

/-! ### Deliveries -/

/-- What is delivered at the idle that closes a frame. The outcome is failed for a frame that this station flagged, a
slot fault where the Line Unit found one or a slot it drove is sampled recessive, and else the row of Table 2-2 for the
samples. The own frame is the one fixed at SOF. Another's comes with its sender and the content of its assembled bits,
after a slot fault too, and without contents where it has a format fault, a flag or a lost place (R10, R14, R16, R17,
R18, R22, R28, R31). -/
def Obligations.OutcomeFollowsTable2_2 : Prop :=
  ∀ (slots : Slots) (s : State),
    let d := s.delivery slots
    let missed : Prop :=
      (s.commit.drive.reject = true ∧ slots.reject = false) ∨ (s.commit.drive.agree = true ∧ slots.agree = false) ∨
        (s.commit.drive.dissent = true ∧ slots.dissent = false)
    let faulted : Prop := s.line.reception = .slotFault ∨ s.line.reception = .lostPlace ∨ missed
    (s.line.assembly.errorFlag = true → d.verdict = .rejected) ∧
    (s.line.assembly.errorFlag = false → faulted → d.verdict = .slotFault) ∧
    (s.line.assembly.errorFlag = false → ¬ faulted →
      (slots.reject = true → d.verdict = .rejected) ∧
      (slots.reject = false → slots.dissent = true → d.verdict = .dissented slots.agree) ∧
      (slots.reject = false → slots.dissent = false → d.verdict = .passed)) ∧
    (s.line.ownOnLine = true → d.own = true ∧ d.frame = s.line.fixed) ∧
    (s.line.ownOnLine = false → d.own = false ∧
      ((s.line.assembly.formatFault = true ∨ s.line.assembly.errorFlag = true ∨ s.line.reception = .lostPlace) →
        d.frame = none) ∧
      (s.line.assembly.formatFault = false → s.line.assembly.errorFlag = false → s.line.reception ≠ .lostPlace →
        ∀ (raw : RawFrame) (c : Content), s.line.assembly.code = some raw.code → s.line.assembly.sender = some raw.sender →
          s.line.assembly.payload = raw.payload → contentOf raw = some c →
          d.frame = some { sender := raw.sender, content := c }))

/-- An aborted own frame and a truncated frame give no delivery, and a station in DETACHED or FAULT discards one: only
the Line Unit's place in the frame changes (R13, R17, R35), and the drive record empties with its frame, which no rule
says: the model's reading (log 17). -/
def Obligations.DiscardedDeliveryChangesNothing : Prop :=
  ∀ (slots : Slots) (s : State), s.inReset = false →
    (s.line.aborted = true ∨ (s.line.rx = .body ∧ s.line.reception = .abandoned) ∨
      (s.line.undelivered = true ∧ s.ctrl.station.silent = true)) →
    ∃ t, exec (.frameDelivery slots) s = .next t ∧
      t = { s with line := t.line, commit := { s.commit with drive := .empty } } ∧
      t.line.tx = .idle ∧ t.line.fixed = none ∧ t.line.aborted = false ∧ t.line.reception = .delivered

/-- A frame of another station's that failed, by REJECT, by dissent or by a slot fault at a station without a COMPLETE
table whose log is closed, is applied, logged and accepted nowhere, and an accepted PRESENCE adds nothing to its heard
notice, nor does an accepted SNAPSHOT for another station, one that finds the reception phase CLOSED, or a lock
segment that finds it LISTENING (R29, R115, R122, Table 6-1): at a receiver that keeps its state the tables, the
epoch, the failure count, the transfers, the intents and the events stay as they are, and only the heard notice acts,
by the station state (R23, R25, R28, R31, R76). ACTIVE: the sender's silence timer runs again where the station keeps
one for it, and a pending EVICT naming the sender is withdrawn unless it is on the wire (R77, R79). SEEKING without a
pending control frame: a frame that shows a group sets the contact mark (R87). FOUNDING: such a frame takes the
founder back to SEEKING with JOIN pending, and a GENESIS off the wire is withdrawn (R91). RECEIVING and SYNCED:
nothing. A slot fault where the log is open is a log gap: JOIN is re-queued, or the join given up at a count of 4
(R31, R32, R96, R97, R113). The drive record empties with its frame, the model's reading (log 17). -/
def Obligations.FailedFrameIsAppliedNowhere : Prop :=
  (∀ (slots : Slots) (s : State) (d : Delivery), s.Delivers slots d → d.own = false →
    (d.verdict = .rejected ∨ d.verdict = .dissented false ∨ (d.verdict = .dissented true ∧ d.drove.dissent = false) ∨
      (d.verdict = .slotFault ∧ s.table.validity ≠ .complete ∧ s.transfer.phase = .closed) ∨
      (d.verdict = .passed ∧ ∃ f e, d.frame = some f ∧ f.content = .presence e) ∨
      (d.verdict = .passed ∧ ∃ f target e j segment, d.frame = some f ∧ f.content = .snapshot target e j segment ∧
        (target ≠ s.ctrl.id ∨ s.transfer.phase = .closed ∨
          (s.transfer.phase = .listening ∧ ∃ pair a b, segment = .locks pair a b)))) →
    ∃ t, exec (.frameDelivery slots) s = .next t ∧
      t.table = s.table ∧ t.commit = { s.commit with drive := .empty } ∧ t.transfer = s.transfer ∧
      t.intents = s.intents ∧ t.events = s.events ∧ t.port = s.port ∧
      (d.frame = none → t.ctrl = s.ctrl ∧ t.sel = s.sel) ∧
      ∀ f, d.frame = some f →
        let offWire (o : Offered) : Prop := s.sel.offered = some o ∧ s.sel.onWire = false
        let without (o : Offered) : Prop :=
          (offWire o → t.sel = { s.sel with offered := none }) ∧ (¬ offWire o → t.sel = s.sel)
        let showsAGroup : Prop := f.content.kind ≠ .genesis ∧ f.content.kind ≠ .join
        (s.ctrl.station = .active →
          t.ctrl = { s.ctrl with silence := t.ctrl.silence, evicts := t.ctrl.evicts } ∧ without (.evict f.sender) ∧
          (∀ i, entryAt t.ctrl.silence i =
            if i = f.sender ∧ i ≠ s.ctrl.id ∧ statusIn s.table.members i ≠ .absent then .running
            else entryAt s.ctrl.silence i) ∧
          ∀ i, inSet t.ctrl.evicts i =
            (inSet s.ctrl.evicts i &&
              !decide (i = f.sender ∧ ¬ (s.sel.offered = some (.evict i) ∧ s.sel.onWire = true)))) ∧
        (s.ctrl.station = .seeking →
          t.sel = s.sel ∧
          (s.ctrl.control = none → showsAGroup → t.ctrl = { s.ctrl with contact := true }) ∧
          ((s.ctrl.control ≠ none ∨ ¬ showsAGroup) → t.ctrl = s.ctrl)) ∧
        (s.ctrl.station = .founding →
          (showsAGroup → t.ctrl = { s.ctrl with station := .seeking, control := some .join } ∧ without .genesis) ∧
          (¬ showsAGroup → t.ctrl = s.ctrl ∧ t.sel = s.sel)) ∧
        ((s.ctrl.station = .receiving ∨ s.ctrl.station = .synced) → t.ctrl = s.ctrl ∧ t.sel = s.sel)) ∧
  (∀ (slots : Slots) (s : State) (d : Delivery), s.Delivers slots d → d.own = false → d.verdict = .slotFault →
    s.table.validity ≠ .complete → s.transfer.phase ≠ .closed →
    (s.ctrl.station = .seeking ∨ s.ctrl.station = .receiving) →
    ∃ t, exec (.frameDelivery slots) s = .next t ∧ s.JoinsAgain t ∧ t.intents = s.intents ∧ t.port = s.port)

/-- An own frame that failed, by REJECT, by dissent with AGREE dominant or of a JOIN or SNAPSHOT, or by a slot fault
without a COMPLETE table, is counted and offered again. A count that reaches 16 leads to FAULT with cause REJECT_LIMIT
in its place (R23, R24, R31, R33, R34, Table 2-4). A slot fault that meets an open log does the same after the log gap
has re-queued JOIN or given up the join (R32, R113). An own GENESIS that failed by dissent is reported DROPPED and no
longer offered; its founder is SEEKING with JOIN pending, and neither the attempts nor the count change (R24, R90), with
AGREE dominant too (log 26). The drive record empties with its frame, the model's reading (log 17). -/
def Obligations.FailedOwnFrameIsCounted : Prop :=
  ∀ (slots : Slots) (s : State) (d : Delivery) (fr : Frame) (f : Offered), s.Delivers slots d → d.own = true →
    d.frame = some fr → s.sel.offered = some f →
    let after (n : Nat) : State :=
      { s with line := s.line.handOver slots, commit := { s.commit with drive := .empty, failures := n } }
    ((d.verdict = .rejected ∨
       (d.verdict = .dissented true ∧ epochBearing fr.content.kind = true) ∨
       (∃ agree, d.verdict = .dissented agree ∧ (fr.content.kind = .join ∨ fr.content.kind = .snapshot)) ∨
       (d.verdict = .slotFault ∧ s.table.validity ≠ .complete ∧ s.transfer.phase = .closed)) →
     (s.commit.failures + 1 < 16 →
       exec (.frameDelivery slots) s = .next ((after (s.commit.failures + 1)).offerKept f)) ∧
     (16 ≤ s.commit.failures + 1 → exec (.frameDelivery slots) s = .next ((after 16).enterFault .rejectLimit))) ∧
    (d.verdict = .slotFault → s.table.validity ≠ .complete → s.transfer.phase ≠ .closed → s.sel.onWire = true →
     (s.ctrl.station = .seeking ∨ s.ctrl.station = .receiving) →
     let counted : State := after (min (s.commit.failures + 1) 16)
     ∃ u, counted.JoinsAgain u ∧
       u = { counted with
         commit := u.commit, table := u.table, transfer := u.transfer, ctrl := u.ctrl, events := u.events } ∧
       (s.commit.failures + 1 < 16 → exec (.frameDelivery slots) s = .next (u.offerKept f)) ∧
       (16 ≤ s.commit.failures + 1 → exec (.frameDelivery slots) s = .next (u.enterFault .rejectLimit))) ∧
    (∀ agree, d.verdict = .dissented agree → fr.content = .genesis → f = .genesis →
     exec (.frameDelivery slots) s = .next
       { after s.commit.failures with
         sel := { s.sel with offered := none, onWire := false },
         ctrl := { s.ctrl with station := .seeking, control := some .join } })

/-- A committed frame at a station with a COMPLETE table is applied whole by the Table Engine, and the epoch rises by
one modulo 65536, whatever the application changes, at the sender as at a receiver. The station's own LEAVE and its
own eviction, which discard the table afterwards, are the subject of another statement (R26, R27, R47, R68). An own
frame of an ACTIVE station that passed is reported PASSED: the failure count is 0, the frame is no longer offered, the
yield flag is set for the request class, the presence timer runs anew and no PRESENCE is pending, and its own entry is
gone, be it the pending EVICT, the entry of the request queue, or the outstanding CANCEL; the entries that do not name
its lock stay in order, and so do all that are left where no second entry names it (R33, R75, R78, R130, R135, R140,
R149, R153). The drive record empties with its frame, the model's reading (log 17). Another station's JOIN, READY, LEAVE or
EVICT at an ACTIVE station, about a station that is not this one: the lock notices of the purge act, and where the
entry concerned has changed (log 29) MEMBERS_CHANGED follows their events with the stations then ACTIVE; the silence
timer of the station concerned stops where it is ABSENT and runs anew where it has become or is made JOINING or
ACTIVE, the sender's runs anew where it stood in the table, and an EVICT naming the sender, a station now ABSENT or a
station whose JOIN committed is no longer pending nor offered unless it is on the wire (R74, R77, R79). A committed
ACQUIRE, RELEASE or CANCEL leaves the events, the intent records and the wait timers that its notices leave, taken in
their order; at its sender its entry and its outstanding CANCEL are then gone too (R36, R48, R146, R147, R148, R153). -/
def Obligations.CommitRaisesTheEpoch : Prop :=
  (∀ (slots : Slots) (s : State) (d : Delivery) (f : Frame) (c : Change) (e : Word16), s.Delivers slots d →
     d.frame = some f → f.content.change? = some c → d.verdict = .passed → s.table.validity = .complete →
     s.commit.epoch = some e → ¬ (c = .leave ∧ f.sender = s.ctrl.id) → c ≠ .evict s.ctrl.id →
     ∃ t, exec (.frameDelivery slots) s = .next t ∧ t.commit.epoch = some (e + 1) ∧
       t.table = (applyChange s.ctrl.id (e + 1) f.sender c s.table).table ∧ t.table.validity = .complete) ∧
  (∀ (slots : Slots) (s : State) (d : Delivery) (o : Offered) (e : Word16), s.Delivers slots d → d.own = true →
     d.frame = some { sender := s.ctrl.id, content := o.content e } → s.sel.offered = some o → s.sel.onWire = true →
     (o.source = .intents → s.intents.offer = some { frame := o, onWire := true }) → d.verdict = .passed →
     s.ctrl.station = .active → s.table.validity = .complete → s.commit.epoch = some e →
     (o = .presence ∨ (∃ x, o = .evict x ∧ x ≠ s.ctrl.id) ∨ (∃ l, o = .cancel l ∨ o = .release l) ∨
       ∃ l m y, o = .acquire l m y) →
     ∃ t, exec (.frameDelivery slots) s = .next t ∧
       t.commit =
         { s.commit with epoch := if o = .presence then some e else some (e + 1), failures := 0, drive := .empty } ∧
       t.sel =
         { s.sel with
           offered := none, onWire := false, yieldFlag := s.sel.yieldFlag || decide (o.source = .intents) } ∧
       t.ctrl.station = .active ∧ t.ctrl.presence = .running ∧ t.ctrl.presencePending = false ∧
       (∀ i, inSet t.ctrl.evicts i = (inSet s.ctrl.evicts i && decide (o ≠ .evict i))) ∧
       (let left := match o with
          | .acquire l m y => s.intents.queue.erase (.acquire l m y)
          | .release l => s.intents.queue.erase (.release l)
          | _ => s.intents.queue
        let apart (e : QueueEntry) : Bool := decide (e.lock? = none ∨ e.lock? ≠ o.lock?)
        t.intents.queue.filter apart = left.filter apart ∧ (left.all apart = true → t.intents.queue = left)) ∧
       (∀ l, o = .cancel l → (t.intent l).outstanding = none) ∧
       t.intents.offer = if o.source = .intents then none else s.intents.offer) ∧
  (∀ (slots : Slots) (s : State) (d : Delivery) (f : Frame) (c : Change) (e : Word16) (x : StationId),
     s.Delivers slots d → d.own = false → d.frame = some f → f.content.change? = some c → d.verdict = .passed →
     s.ctrl.station = .active → s.table.validity = .complete → s.commit.epoch = some e → x ≠ s.ctrl.id →
     (((c = .join ∨ c = .ready ∨ c = .leave) ∧ x = f.sender) ∨ c = .evict x) →
     let applied := applyChange s.ctrl.id (e + 1) f.sender c s.table
     let noticed : State := applied.notices.foldl State.takeNotice s
     let before := entryAt s.table.members x
     let after := entryAt applied.table.members x
     let given (i : StationId) : Prop := i = f.sender ∨ (i = x ∧ (after.status = .absent ∨ c = .join))
     ∃ t active, exec (.frameDelivery slots) s = .next t ∧
       t.events = (if after ≠ before then noticed.events.place (.station (.membersChanged active)) else noticed.events) ∧
       (∀ i, inSet active i = decide (statusIn applied.table.members i = .active)) ∧
       t.intents = noticed.intents ∧
       t.ctrl = { s.ctrl with silence := t.ctrl.silence, evicts := t.ctrl.evicts } ∧
       (∀ i, entryAt t.ctrl.silence i =
         if i = x ∧ after.status = .absent then .stopped
         else if i = x ∧ (c = .join ∨ after.status ≠ before.status) then .running
         else if i = f.sender ∧ i ≠ s.ctrl.id ∧ statusIn s.table.members i ≠ .absent then .running
         else entryAt s.ctrl.silence i) ∧
       ∀ i, (inSet t.ctrl.evicts i =
           (inSet s.ctrl.evicts i && !decide (given i ∧ ¬ (s.sel.offered = some (.evict i) ∧ s.sel.onWire = true)))) ∧
         (given i → s.sel.offered = some (.evict i) → s.sel.onWire = false → t.sel.offered = none)) ∧
  (∀ (slots : Slots) (s : State) (d : Delivery) (f : Frame) (c : Change) (e : Word16), s.Delivers slots d →
     d.frame = some f → f.content.change? = some c → d.verdict = .passed → s.table.validity = .complete →
     s.commit.epoch = some e → ((∃ l m y, c = .acquire l m y) ∨ ∃ l, c = .release l ∨ c = .cancel l) →
     let noticed : State := (applyChange s.ctrl.id (e + 1) f.sender c s.table).notices.foldl State.takeNotice s
     (d.own = false → ∃ t, exec (.frameDelivery slots) s = .next t ∧
       t.intents = noticed.intents ∧ t.events = noticed.events) ∧
     ∀ o, d.own = true → f.sender = s.ctrl.id → s.sel.offered = some o → o.content e = f.content →
       s.sel.onWire = true → s.intents.offer = some { frame := o, onWire := true } →
       ∃ t, exec (.frameDelivery slots) s = .next t ∧ t.events = noticed.events ∧
         (∀ l, t.intent l =
           if o = .cancel l then { noticed.intent l with outstanding := none } else noticed.intent l) ∧
         t.intents.timers = noticed.intents.timers ∧ t.intents.offer = none ∧
         t.intents.queue = (match o with
           | .acquire l m y => noticed.intents.queue.erase (.acquire l m y)
           | .release l => noticed.intents.queue.erase (.release l)
           | _ => noticed.intents.queue))

/-- A committed frame at a station without a COMPLETE table changes no epoch. With the log closed nothing is logged; with
it open the frame is appended as one record, and a record that changes the donor drops the reception; a full log, and
the own eviction, re-queue JOIN in place of the append, or give up the join (R27, R110, R111, R112, R114, R119). The own
JOIN, committed: JOIN is no longer pending nor offered, the failure count is 0, the log is LISTENING and empty with the
discard count 0, the first-contact timer and the join deadline start, and the contact mark is clear (R33, R86, R110). The
drive record empties with its frame, the model's reading (log 17). -/
def Obligations.JoinerLogsTheCommit : Prop :=
  (∀ (slots : Slots) (s : State) (d : Delivery) (f : Frame) (c : Change), s.Delivers slots d → d.own = false →
     d.frame = some f → f.content.change? = some c → d.verdict = .passed → s.table.validity ≠ .complete →
     let changes : Prop := ∃ cur, s.transfer.phase = .loading ∧ s.transfer.current = some cur ∧
       ((c = .leave ∧ f.sender = cur.donor) ∨ c = .evict cur.donor ∨ (c = .join ∧ f.sender = cur.donor) ∨
         (c = .ready ∧ f.sender < cur.donor))
     ∃ t, exec (.frameDelivery slots) s = .next t ∧
       (s.transfer.phase = .closed →
         t.transfer = s.transfer ∧ t.table = s.table ∧ t.commit = { s.commit with drive := .empty }) ∧
       (s.transfer.phase ≠ .closed → c ≠ .evict s.ctrl.id → s.transfer.log.length < 32 →
         t.commit = { s.commit with drive := .empty } ∧
         t.transfer.log = s.transfer.log ++ [{ sender := f.sender, change := c }] ∧
         t.transfer.discards = s.transfer.discards ∧
         (changes → t.transfer.phase = .listening ∧ t.transfer.current = none ∧ t.table.validity = .none) ∧
         (¬ changes →
           t.transfer.phase = s.transfer.phase ∧ t.transfer.current = s.transfer.current ∧ t.table = s.table)) ∧
       (s.transfer.phase ≠ .closed → (s.ctrl.station = .seeking ∨ s.ctrl.station = .receiving) →
         (c = .evict s.ctrl.id ∨ 32 ≤ s.transfer.log.length) →
         t.commit.epoch = none ∧ t.table.validity = .none ∧ t.transfer.phase = .closed ∧ t.transfer.log = [] ∧
         t.transfer.discards = 0 ∧
         (s.ctrl.attempts < 4 →
           t.ctrl.station = .seeking ∧ t.ctrl.control = some .join ∧ t.ctrl.attempts = s.ctrl.attempts + 1 ∧
           t.events = s.events) ∧
         (4 ≤ s.ctrl.attempts →
           t.ctrl.station = .detached ∧ t.ctrl.control = none ∧ t.ctrl.attempts = s.ctrl.attempts ∧
           t.events = s.events.place (.station .joinFailed)))) ∧
  (∀ (slots : Slots) (s : State) (d : Delivery) (f : Frame), s.Delivers slots d → d.own = true → d.frame = some f →
     f.content = .join → d.verdict = .passed → s.ctrl.station = .seeking → s.table.validity ≠ .complete →
     s.transfer.phase = .closed → s.sel.offered = some .join →
     exec (.frameDelivery slots) s = .next
       { s with
         line := s.line.handOver slots,
         commit := { s.commit with failures := 0, drive := .empty },
         transfer := { s.transfer with phase := .listening, log := [], discards := 0, current := none },
         ctrl := { s.ctrl with control := none, contact := false, firstContact := .running, joinDeadline := .running },
         sel := { s.sel with offered := none, onWire := false } })

/-- Falling out of step, on each of its causes: a slot fault with a COMPLETE table, an own epoch-bearing frame
dissented with AGREE recessive, a dissenting ACTIVE receiver that samples AGREE dominant, and another's GENESIS
committed at a SYNCED station. Table, epoch, intents, transfers and pending frames are given up, the count is 0 and
the last fault cause kept, LOST events come before OUT_OF_STEP, and JOIN is pending in SEEKING with the count 1 (R24,
R25, R30, R31, R37, Table 2-5). Another's GENESIS committed in the other states of Table 5-2: SEEKING with JOIN
pending, nothing more; SEEKING with the own JOIN committed, and RECEIVING, where a reception is dropped with its
table: the log is closed and empty, the join timers stop, the contact mark is clear, and JOIN is pending in SEEKING;
FOUNDING: GENESIS is withdrawn and JOIN is pending in SEEKING; the attempts are unchanged (R30, R92). The drive record
empties with its frame, the model's reading (log 17). -/
def Obligations.FallingOutOfStep : Prop :=
  (∀ (slots : Slots) (s : State) (d : Delivery), s.Delivers slots d →
    (s.ctrl.station = .synced ∨ s.ctrl.station = .active) → s.table.validity = .complete →
    (s.sel.onWire = true → d.own = true) →
    (d.verdict = .slotFault ∨
      (d.verdict = .dissented false ∧ d.own = true ∧ ∃ f, d.frame = some f ∧ epochBearing f.content.kind = true) ∨
      (d.verdict = .dissented true ∧ d.own = false ∧ s.ctrl.station = .active ∧ d.drove.dissent = true) ∨
      (d.verdict = .passed ∧ d.own = false ∧ s.ctrl.station = .synced ∧ ∃ f, d.frame = some f ∧ f.content = .genesis)) →
    ∃ t, exec (.frameDelivery slots) s = .next t ∧
      t.commit = { epoch := none, failures := 0, lastFault := s.commit.lastFault, drive := .empty } ∧
      t.table.validity = .none ∧ t.transfer = .initial ∧ t.intents = .initial ∧
      t.sel.offered = none ∧ t.sel.yieldFlag = false ∧ t.sel.yieldWait = .stopped ∧
      t.ctrl =
        { Controller.initial s.ctrl.id with
          station := .seeking, attempts := 1, control := some .join, contact := t.ctrl.contact,
          p := s.ctrl.p, k := s.ctrl.k, jmul := s.ctrl.jmul } ∧
      t.events =
        ((allLocks.filter (fun l => (s.intent l).state ≠ .idle)).foldl (fun q l => q.place (.lock l .lost)) s.events).place
          (.station .outOfStep)) ∧
  (∀ (slots : Slots) (s : State) (d : Delivery) (f : Frame), s.Delivers slots d → d.own = false → d.frame = some f →
    f.content = .genesis → d.verdict = .passed →
    let taken : State := { s with line := s.line.handOver slots, commit := { s.commit with drive := .empty } }
    (s.ctrl.station = .seeking → s.ctrl.control = some .join → exec (.frameDelivery slots) s = .next taken) ∧
    (((s.ctrl.station = .seeking ∧ s.ctrl.control ≠ some .join) ∨ s.ctrl.station = .receiving) →
      ∃ t, exec (.frameDelivery slots) s = .next t ∧
        t = { taken with
          table := t.table
          transfer := { s.transfer with phase := .closed, log := [], discards := 0, current := none }
          ctrl :=
            { s.ctrl with
              station := .seeking, control := some .join, firstContact := .stopped, joinDeadline := .stopped,
              deadlineHeld := false, contact := false } } ∧
        (s.transfer.phase = .loading → t.table.validity = .none) ∧
        (s.transfer.phase ≠ .loading → t.table = s.table)) ∧
    (s.ctrl.station = .founding →
      exec (.frameDelivery slots) s = .next
        { taken with
          sel := if s.sel.offered = some .genesis ∧ s.sel.onWire = false then { s.sel with offered := none } else s.sel
          ctrl := { s.ctrl with station := .seeking, control := some .join } }))

/-- The own GENESIS commits: a fresh table with this station alone ACTIVE, epoch 1, the station ACTIVE with the count
0 and its presence timer running, no silence timer, and JOINED before MEMBERS_CHANGED (R30, R58, R69, R95). The own
READY commits at a SYNCED station that stands JOINING: its entry alone becomes ACTIVE with join epoch 0, no lock
changes, the epoch rises by one, and the station is ACTIVE with the count 0 and no join timer; its presence timer
runs, and a silence timer for every ACTIVE or JOINING peer; JOINED comes before MEMBERS_CHANGED (R26, R71, R74, R77,
R89, R95). The drive record empties with its frame, the model's reading (log 17). -/
def Obligations.OwnGenesisFoundsTheGroup : Prop :=
  (∀ (slots : Slots) (s : State) (d : Delivery) (f : Frame), s.Delivers slots d → d.own = true → d.frame = some f →
     f.content = .genesis → d.verdict = .passed → s.sel.offered = some .genesis →
     ∃ t, exec (.frameDelivery slots) s = .next t ∧
       t.table.validity = .complete ∧
       (∀ l, entryAt t.table.locks l = { mode := .free, holders := 0, waiters := [], grants := 0 }) ∧
       (∀ i, entryAt t.table.members i =
         { status := if i = s.ctrl.id then .active else .absent, joinEpoch := 0 }) ∧
       t.commit.epoch = some 1 ∧ t.commit.failures = 0 ∧
       t.ctrl.station = .active ∧ t.ctrl.attempts = 0 ∧ t.ctrl.control = none ∧ t.ctrl.presence = .running ∧
       t.ctrl.silence = Vector.replicate 16 .stopped ∧ t.ctrl.joinDeadline = .stopped ∧ t.sel.offered = none ∧
       t.events = (s.events.place (.station .joined)).place (.station (.membersChanged (single s.ctrl.id)))) ∧
  (∀ (slots : Slots) (s : State) (d : Delivery) (epoch e j : Word16), s.Delivers slots d → d.own = true →
     d.frame = some { sender := s.ctrl.id, content := .ready epoch } → d.verdict = .passed → s.ctrl.station = .synced →
     s.table.validity = .complete → s.commit.epoch = some e → s.sel.offered = some .ready →
     entryAt s.table.members s.ctrl.id = { status := .joining, joinEpoch := j } →
     ∃ t active, exec (.frameDelivery slots) s = .next t ∧
       t.table.validity = .complete ∧ t.table.locks = s.table.locks ∧
       (∀ i, entryAt t.table.members i =
         if i = s.ctrl.id then { status := .active, joinEpoch := 0 } else entryAt s.table.members i) ∧
       t.commit = { s.commit with epoch := some (e + 1), failures := 0, drive := .empty } ∧
       t.ctrl =
         { s.ctrl with
           station := .active, attempts := 0, control := none, presence := .running, presencePending := false,
           firstContact := .stopped, joinDeadline := .stopped, deadlineHeld := false, silence := t.ctrl.silence } ∧
       (∀ i, entryAt t.ctrl.silence i =
         if i ≠ s.ctrl.id ∧ statusIn s.table.members i ≠ .absent then .running else .stopped) ∧
       t.sel = { s.sel with offered := none, onWire := false } ∧ t.intents = s.intents ∧
       t.events = (s.events.place (.station .joined)).place (.station (.membersChanged active)) ∧
       ∀ i, inSet active i = decide (i = s.ctrl.id ∨ statusIn s.table.members i = .active))

/-- The own LEAVE commits, or an EVICT naming this ACTIVE station does: the purge voids the intents with LOST events,
the table is discarded and the epoch is "none"; after the LEAVE, and after an eviction with leave-pending set, the
station is DETACHED with LEFT; after any other eviction it is SEEKING with JOIN pending, the count 1, and EVICTED
(R56, R72, R73, R99, R100, R155). At a SYNCED station the own eviction voids the intents too, and JOIN is re-queued
with an added attempt, or the join given up at a count of 4, without LEFT or EVICTED (R96, R97, R100). That the purge
voids the intents also where this station stands in no lock is the model's reading (log 33), and that the drive record
empties with its frame is too (log 17). -/
def Obligations.OwnDepartureLeavesTheGroup : Prop :=
  (∀ (slots : Slots) (s : State) (d : Delivery) (f : Frame) (c : Change) (e : Word16), s.Delivers slots d →
    d.frame = some f → f.content.change? = some c → d.verdict = .passed → s.table.validity = .complete →
    s.commit.epoch = some e → s.ctrl.station = .active →
    (d.own = true → ∃ o, s.sel.offered = some o ∧ o.content e = f.content) →
    ((c = .leave ∧ f.sender = s.ctrl.id) ∨ (c = .evict s.ctrl.id ∧ statusIn s.table.members s.ctrl.id ≠ .absent)) →
    let stays : Bool := decide (c = .evict s.ctrl.id) && !s.ctrl.leavePending
    ∃ t, exec (.frameDelivery slots) s = .next t ∧
      t.commit.epoch = none ∧ t.table.validity = .none ∧ t.transfer = .initial ∧
      (∀ l, t.intent l = .idle) ∧ t.intents.queue = [] ∧ t.intents.timers = Vector.replicate 64 .stopped ∧
      t.ctrl.station = (if stays then .seeking else .detached) ∧
      t.ctrl.control = (if stays then some .join else none) ∧ t.ctrl.attempts = (if stays then 1 else 0) ∧
      t.ctrl.leavePending = false ∧ t.ctrl.evicts = 0 ∧ t.ctrl.presencePending = false ∧
      t.ctrl.presence = .stopped ∧ t.ctrl.silence = Vector.replicate 16 .stopped ∧
      t.events =
        ((allLocks.filter (fun l => (s.intent l).state ≠ .idle)).foldl (fun q l => q.place (.lock l .lost)) s.events).place
          (.station (if stays then .evicted else .left))) ∧
  (∀ (slots : Slots) (s : State) (d : Delivery) (f : Frame) (epoch e : Word16), s.Delivers slots d → d.own = false →
    d.frame = some f → f.content = .evict epoch s.ctrl.id → d.verdict = .passed → s.table.validity = .complete →
    s.commit.epoch = some e → s.ctrl.station = .synced → statusIn s.table.members s.ctrl.id ≠ .absent →
    let voided : State :=
      { s with events :=
          (allLocks.filter (fun l => (s.intent l).state ≠ .idle)).foldl (fun q l => q.place (.lock l .lost)) s.events }
    ∃ t, exec (.frameDelivery slots) s = .next t ∧ voided.JoinsAgain t ∧ t.intents = .initial ∧ t.port = s.port)

/-! ### State transfer -/

/-- An accepted segment 0 for this station while its log is open. Where every check of R116 holds, its records become
the membership table with no lock entry loaded, the validity is PARTIAL, the log keeps the records after E, and a
SEEKING station becomes RECEIVING, its first-contact timer stopped and its contact mark clear, with the join deadline
left to run. Where one fails, nothing is loaded, and JOIN is re-queued or the join given up (R93, R96, R97, R116,
R117, R120). An accepted lock segment while LOADING is ignored unless it is the expected one of the current transfer
(R115). Where both of its entries keep the laws of R42, R43 and R46 beside the loaded membership table, both are
stored; below index 32 the next index is expected. Where one does not, the segment is refused as a segment 0 is (R59,
R118). After index 32 the validity is COMPLETE at E, every record of the log is applied in order with its own epoch,
the log is closed and empty, and the station is SYNCED with READY pending (R121). The drive record empties with its
frame, the model's reading (log 17). -/
def Obligations.SegmentZeroStartsTheReception : Prop :=
  (∀ (slots : Slots) (s : State) (d : Delivery) (f : Frame) (e j : Word16) (records : Vector MemberEntry 16),
     s.Delivers slots d → d.own = false → d.frame = some f → f.content = .snapshot s.ctrl.id e j (.members records) →
     d.verdict = .passed → s.transfer.phase ≠ .closed →
     (s.ctrl.station = .seeking ∨ s.ctrl.station = .receiving) →
     let n := (e - j).toNat
     let checks : Prop :=
       entryAt records s.ctrl.id = { status := .joining, joinEpoch := j } ∧
       statusIn records f.sender = .active ∧ (∀ i, i < f.sender → statusIn records i ≠ .active) ∧
       (∀ i, statusIn records i ≠ .joining → (entryAt records i).joinEpoch = 0) ∧
       s.transfer.discards ≤ n ∧ n ≤ s.transfer.discards + s.transfer.log.length
     ∃ t, exec (.frameDelivery slots) s = .next t ∧
       (checks →
         t.table.validity = .partial_ ∧ t.table.members = records ∧
         (s.ctrl.station = .seeking →
           t.ctrl = { s.ctrl with station := .receiving, firstContact := .stopped, contact := false }) ∧
         (s.ctrl.station = .receiving → t.ctrl = s.ctrl) ∧
         t.commit = { s.commit with drive := .empty } ∧
         t.transfer =
           { s.transfer with
             phase := .loading, log := s.transfer.log.drop (n - s.transfer.discards), discards := n,
             current := some { donor := f.sender, e, j, expected := 1 } }) ∧
       (¬ checks →
         t.table.validity = .none ∧ t.commit.epoch = none ∧ t.transfer.phase = .closed ∧ t.transfer.log = [] ∧
         t.ctrl.station = (if s.ctrl.attempts < 4 then .seeking else .detached))) ∧
  (∀ (slots : Slots) (s : State) (d : Delivery) (f : Frame) (e j : Word16) (pair : Fin 32) (a b : LockEntry)
     (cur : Transfer), s.Delivers slots d → d.own = false → d.frame = some f →
     f.content = .snapshot s.ctrl.id e j (.locks pair a b) → d.verdict = .passed → s.transfer.phase = .loading →
     s.transfer.current = some cur → s.ctrl.station = .receiving →
     let awaited : Prop := cur = { donor := f.sender, e, j, expected := pair.val + 1 }
     let lawful : Prop := a.Lawful s.table.members ∧ b.Lawful s.table.members
     let loaded : TableEngine :=
       { s.table with locks := (s.table.locks.set (2 * pair.val) a).set (2 * pair.val + 1) b }
     let replayed : TableEngine × Word16 :=
       s.transfer.log.foldl
         (fun p r => ((applyChange s.ctrl.id (p.2 + 1) r.sender r.change p.1).table, p.2 + 1))
         ({ loaded with validity := .complete }, e)
     ∃ t, exec (.frameDelivery slots) s = .next t ∧
       (¬ awaited →
         t = { s with line := s.line.handOver slots, commit := { s.commit with drive := .empty } }) ∧
       (awaited → lawful → pair.val < 31 →
         t = { s with
           line := s.line.handOver slots, commit := { s.commit with drive := .empty }, table := loaded,
           transfer := { s.transfer with current := some { cur with expected := pair.val + 2 } } }) ∧
       (awaited → ¬ lawful →
         t.table.validity = .none ∧ t.commit.epoch = none ∧ t.transfer.phase = .closed ∧ t.transfer.log = [] ∧
         t.ctrl.station = (if s.ctrl.attempts < 4 then .seeking else .detached)) ∧
       (awaited → lawful → pair.val = 31 →
         t.table = replayed.1 ∧
         t.commit = { s.commit with epoch := some (e + BitVec.ofNat 16 s.transfer.log.length), drive := .empty } ∧
         t.transfer = { s.transfer with phase := .closed, log := [], discards := 0, current := none } ∧
         t.ctrl = { s.ctrl with station := .synced, control := some .ready }))

/-- A JOIN of another station's commits at the ACTIVE donor while its donor phase is FREE: in the same delivery an
image of the tables as they stand after the commit is captured for the oldest JOINING entry whose pair is not in the
served set, with E the epoch after the commit and J that entry's join epoch, and segment 0 is next (R66, R70, R103,
R104). The own segment is accepted: below segment 32 the next one is available; after segment 32 the pair is in the
served set and the image buffer is free, or holds the image of the next transfer (R29, R106, R107). Every commit that
this station applies and that leaves it ACTIVE, its own READY among them, and its own segment 32 make the evaluation:
the served set keeps the pairs that stand, a transfer whose target no longer stands with its join epoch, or that this
station is no longer the donor for, is abandoned with its segment off offer, any other goes on with its segment on
offer, and where none is left the donor captures the oldest unserved joiner (R103, R104, R107, R108). -/
def Obligations.DonorServesTheOldestJoiner : Prop :=
  (∀ (slots : Slots) (s : State) (d : Delivery) (f : Frame) (e : Word16), s.Delivers slots d → d.own = false →
     d.frame = some f → f.content = .join → d.verdict = .passed → s.ctrl.station = .active →
     s.table.validity = .complete → s.commit.epoch = some e → f.sender ≠ s.ctrl.id → s.transfer.donorPhase = .free →
     { station := f.sender, joinEpoch := e + 1 } ∉ s.transfer.served →
     ∃ t, exec (.frameDelivery slots) s = .next t ∧
       (donorOf t.table.members = some s.ctrl.id →
         t.transfer.donorPhase = .serving ∧ t.transfer.nextSegment = 0 ∧ t.commit.epoch = some (e + 1) ∧
         ∃ img, t.transfer.image = some img ∧ img.members = t.table.members ∧ img.locks = t.table.locks ∧
           img.e = e + 1 ∧ entryAt t.table.members img.target = { status := .joining, joinEpoch := img.j } ∧
           { station := img.target, joinEpoch := img.j } ∉ t.transfer.served ∧
           ∀ i, statusIn t.table.members i = .joining →
             { station := i, joinEpoch := (entryAt t.table.members i).joinEpoch } ∉ t.transfer.served →
             ageOf (e + 1) (entryAt t.table.members i).joinEpoch ≤ ageOf (e + 1) img.j)) ∧
  (∀ (slots : Slots) (s : State) (d : Delivery) (img : Image), s.Delivers slots d → d.own = true →
     s.transfer.donorPhase = .serving → s.transfer.image = some img →
     d.frame = some
       { sender := s.ctrl.id, content := .snapshot img.target img.e img.j (img.segment s.transfer.nextSegment) } →
     s.sel.offered = some (.segment img.target img.e img.j (img.segment s.transfer.nextSegment)) →
     d.verdict = .passed →
     ∃ t, exec (.frameDelivery slots) s = .next t ∧ t.sel.offered = none ∧ t.commit.failures = 0 ∧
       t.table = s.table ∧ t.commit.epoch = s.commit.epoch ∧
       (∀ h : s.transfer.nextSegment.val < 32,
         t.transfer = { s.transfer with nextSegment := ⟨s.transfer.nextSegment.val + 1, by omega⟩ }) ∧
       (s.transfer.nextSegment.val = 32 →
         (entryAt s.table.members img.target = { status := .joining, joinEpoch := img.j } →
           { station := img.target, joinEpoch := img.j } ∈ t.transfer.served) ∧
         (t.transfer.donorPhase = .free → t.transfer.image = none) ∧
         ∀ e, s.ctrl.station = .active → s.commit.epoch = some e →
           { station := img.target, joinEpoch := img.j } ∉ s.transfer.served →
           State.Evaluated
             { s.transfer with
               donorPhase := .free, image := none
               served := s.transfer.served ++ [{ station := img.target, joinEpoch := img.j }] } e t)) ∧
  (∀ (slots : Slots) (s : State) (d : Delivery) (f : Frame) (c : Change) (e : Word16), s.Delivers slots d →
     d.frame = some f → f.content.change? = some c → d.verdict = .passed → s.table.validity = .complete →
     s.commit.epoch = some e → (s.ctrl.station = .active ∨ (s.ctrl.station = .synced ∧ d.own = true ∧ c = .ready)) →
     (d.own = true → f.sender = s.ctrl.id ∧ c ≠ .join ∧ ∃ o, s.sel.offered = some o ∧ o.content e = f.content) →
     ∃ t, exec (.frameDelivery slots) s = .next t ∧
       (t.ctrl.station = .active →
         State.Evaluated s.transfer (e + 1) t ∧ t.commit.epoch = some (e + 1) ∧
         ∀ img o, s.transfer.donorPhase = .serving → s.transfer.image = some img → s.sel.offered = some o →
           o.source = .transfer → s.sel.onWire = false →
           (t.Serves img → t.sel.offered = some o) ∧ (¬ t.Serves img → t.sel.offered = none)))

/-! ### Timers -/

/-- PRESENCE_TIMER_EXPIRY of a running timer: it stands expired, and PRESENCE is pending (R75). SILENCE_TIMER_EXPIRY of a
peer's running timer: it stops, an EVICT naming the peer is pending, and every other timer and pending EVICT stays (R78).
After each the selector may choose (R126). -/
def Obligations.PresenceAndSilenceExpiry : Prop :=
  (∀ s : State, s.inReset = false → s.ctrl.presence = .running →
     exec .presenceTimerExpiry s = .next
       { s with ctrl := { s.ctrl with presence := .expired, presencePending := true } }.choose) ∧
  (∀ (peer : StationId) (s : State), s.inReset = false → entryAt s.ctrl.silence peer = .running →
     ∃ u, exec (.silenceTimerExpiry peer) s = .next (State.choose u) ∧ u = { s with ctrl := u.ctrl } ∧
       u.ctrl = { s.ctrl with silence := u.ctrl.silence, evicts := u.ctrl.evicts } ∧
       (∀ i, entryAt u.ctrl.silence i = if i = peer then .stopped else entryAt s.ctrl.silence i) ∧
       ∀ i, inSet u.ctrl.evicts i = (decide (i = peer) || inSet s.ctrl.evicts i))

/-- FIRST_CONTACT_EXPIRY of a running timer: with the contact mark set the station goes on waiting; with it clear it is
FOUNDING with GENESIS pending, the join deadline stopped and the catch-up log closed and empty (R88, R110).
JOIN_DEADLINE_EXPIRY of a running timer: it is held while the own READY is on the wire; otherwise JOIN is re-queued with
an added attempt, or at a count of 4 the join is given up with JOIN_FAILED: the join timers stop, the contact mark is
clear, the log closes, the table is discarded and the epoch is "none", and an offered control frame off the wire is
withdrawn (R89, R96, R97, R110). A join given up makes the station DETACHED, and it drives no slot of a frame that it was
to answer (R19): the drive record empties, the model's reading (log 17). -/
def Obligations.JoinTimersExpire : Prop :=
  (∀ s : State, s.inReset = false → s.ctrl.firstContact = .running →
     (s.ctrl.contact = true →
       exec .firstContactExpiry s = .next { s with ctrl := { s.ctrl with firstContact := .stopped } }.choose) ∧
     (s.ctrl.contact = false → ∃ u, exec .firstContactExpiry s = .next (State.choose u) ∧
       u = { s with ctrl := u.ctrl, transfer := u.transfer, table := u.table } ∧
       u.ctrl =
         { s.ctrl with
           station := .founding, control := some .genesis, firstContact := .stopped, joinDeadline := .stopped,
           deadlineHeld := false } ∧
       u.transfer = { s.transfer with phase := .closed, log := [], discards := 0, current := none } ∧
       (s.transfer.phase = .loading → u.table.validity = .none) ∧ (s.transfer.phase ≠ .loading → u.table = s.table))) ∧
  (∀ s : State, s.inReset = false → s.ctrl.joinDeadline = .running →
     ((s.sel.onWire = true ∧ s.sel.offered = some .ready) →
       exec .joinDeadlineExpiry s = .next
         { s with ctrl := { s.ctrl with joinDeadline := .stopped, deadlineHeld := true } }.choose) ∧
     (¬ (s.sel.onWire = true ∧ s.sel.offered = some .ready) →
       ∃ u, exec .joinDeadlineExpiry s = .next (State.choose u) ∧
         u = { s with sel := u.sel, ctrl := u.ctrl, transfer := u.transfer, table := u.table, commit := u.commit,
                      events := u.events } ∧
         u.table.validity = .none ∧
         u.commit =
           { s.commit with epoch := none, drive := if s.ctrl.attempts < 4 then s.commit.drive else .empty } ∧
         (4 ≤ s.ctrl.attempts → s.line.rx = .verdict → s.line.tx ≠ .slots → s.line.tx ≠ .ending →
           (State.choose u).closingCells = List.replicate 4 .released) ∧
         u.transfer = { s.transfer with phase := .closed, log := [], discards := 0, current := none } ∧
         u.ctrl.firstContact = .stopped ∧ u.ctrl.joinDeadline = .stopped ∧ u.ctrl.deadlineHeld = false ∧
         u.ctrl.contact = false ∧ u.ctrl.evicts = 0 ∧ u.ctrl.presencePending = false ∧
         (∀ f, s.sel.offered = some f → f.source = .controller → s.sel.onWire = false → u.sel.offered = none) ∧
         (s.ctrl.attempts < 4 →
           u.ctrl.station = .seeking ∧ u.ctrl.control = some .join ∧ u.ctrl.attempts = s.ctrl.attempts + 1 ∧
           u.ctrl.leavePending = s.ctrl.leavePending ∧ u.events = s.events) ∧
         (4 ≤ s.ctrl.attempts →
           u.ctrl.station = .detached ∧ u.ctrl.control = none ∧ u.ctrl.attempts = s.ctrl.attempts ∧
           u.ctrl.leavePending = false ∧ u.events = s.events.place (.station .joinFailed))))

/-- WAIT_TIMER_EXPIRY of a running timer, by Table 8-4: the timer stops; an ACQUIRE off the wire is given up with
TIMED_OUT, one on the wire takes the mark TIMEOUT where it has none, and a WAITING intent is CANCELLING with cause
TIMEOUT and its CANCEL due. The selector may then choose (R126, R150). -/
def Obligations.WaitExpiryFollowsTable8_4 : Prop :=
  ∀ (l : LockId) (s : State), s.inReset = false → entryAt s.intents.timers l = .running →
    let stopped : State := { s with intents := { s.intents with timers := s.intents.timers.set l.val .stopped } }
    exec (.waitTimerExpiry l) s = .next (State.choose (match (s.intent l).state with
      | .requesting =>
          if s.acquireOnWire l then
            if (s.intent l).mark = none then stopped.setIntent l { s.intent l with mark := some .timeout } else stopped
          else stopped.giveUpRequest l .timeout
      | .waiting =>
          stopped.setIntent l
            { s.intent l with state := .cancelling, cause := some .timeout, outstanding := some .due }
      | _ => stopped))

/-! ### The tables -/

/-- The grant rule: an EXCLUSIVE head of a FREE lock is granted alone; a run of SHARED heads of a FREE or SHARED lock is
granted together, each with its own token, in list order; any other head is not granted. Afterwards the list is empty
or its head cannot be granted (R44, R45, R46). -/
def Obligations.GrantRuleServesTheHeadOfTheList : Prop :=
  ∀ e : LockEntry,
    settled (grantRule e).1 = true ∧
    (settled e = true → grantRule e = (e, [])) ∧
    (∀ i rest, e.mode = .free → e.waiters = { station := i, mode := .exclusive } :: rest →
      grantRule e =
        ({ mode := .exclusive, holders := addTo e.holders i, waiters := rest, grants := e.grants + 1 },
         [{ station := i, mode := .exclusive, token := e.grants + 1 }])) ∧
    ∀ (run rest : List Waiter), e.mode ≠ .exclusive → e.waiters = run ++ rest → run ≠ [] →
      (∀ w ∈ run, w.mode = .shared) → (∀ w, rest.head? = some w → w.mode = .exclusive) →
      grantRule e =
        ({ mode := .shared, holders := run.foldl (fun h w => addTo h w.station) e.holders, waiters := rest,
           grants := e.grants + BitVec.ofNat 16 run.length },
         run.mapIdx (fun n w => { station := w.station, mode := .shared, token := e.grants + BitVec.ofNat 16 (n + 1) }))

/-- ACQUIRE by the first case of Table 3-3 that holds: DUPLICATE_NOOP, a grant at once with the next token, DENIED for
a TRY, or a place at the tail of the waiter list (R45, R49, R50). RELEASE takes its sender out of the holders, and
CANCEL out of the waiters with the others in order; the last holder leaves the lock FREE; then the grant rule runs.
From a station that does not hold, or does not wait, each changes nothing (R51, R52, R53). A request frame from an
ACTIVE station does this to the entry of the lock it names; every other lock, the membership table and the validity
stay, and the notices to this station are the outcome of its own frame and then its grants (R47, R48). From a station
that the table does not list as ACTIVE it changes nothing and gives no notice (R47). -/
def Obligations.RequestsChangeOneEntry : Prop :=
  (∀ (e : LockEntry) (x : StationId) (m : Mode) (try_ : Bool), settled e = true →
     acquireEntry e x m try_ =
       if e.holds x = true ∨ e.waits x = true then { entry := e, outcome := .duplicate, grants := [] }
       else if e.waiters = [] ∧ (e.mode = .free ∨ (e.mode = .shared ∧ m = .shared)) then
         { entry :=
             { mode := (match m with | .shared => .shared | .exclusive => .exclusive), holders := addTo e.holders x,
               waiters := [], grants := e.grants + 1 }
           outcome := .granted m (e.grants + 1), grants := [] }
       else if try_ = true then { entry := e, outcome := .denied, grants := [] }
       else
         { entry := { e with waiters := e.waiters ++ [{ station := x, mode := m }] }
           outcome := .queued m (e.waiters.length + 1), grants := [] }) ∧
  (∀ (e : LockEntry) (x : StationId),
     let left : StationSet := e.holders &&& ~~~ BitVec.twoPow 16 x.val
     let released : LockEntry := { e with holders := left, mode := if left = 0 then .free else e.mode }
     let cancelled : LockEntry := { e with waiters := e.waiters.filter (fun w => w.station ≠ x) }
     (e.holds x = false → releaseEntry e x = { entry := e, outcome := .releaseNoop, grants := [] }) ∧
     (e.holds x = true →
       releaseEntry e x =
         { entry := (grantRule released).1, outcome := .released, grants := (grantRule released).2 }) ∧
     (e.waits x = false → cancelEntry e x = { entry := e, outcome := .cancelVoid, grants := [] }) ∧
     (e.waits x = true →
       cancelEntry e x =
         { entry := (grantRule cancelled).1, outcome := .cancelled, grants := (grantRule cancelled).2 })) ∧
  (∀ (self x : StationId) (epochAfter : Word16) (t : TableEngine) (l : LockId) (m : Mode) (try_ : Bool),
     let requests : List (Change × Applied) :=
       [(.acquire l m try_, acquireEntry (entryAt t.locks l) x m try_), (.release l, releaseEntry (entryAt t.locks l) x),
        (.cancel l, cancelEntry (entryAt t.locks l) x)]
     ∀ r ∈ requests,
       let after := applyChange self epochAfter x r.1 t
       (statusIn t.members x ≠ .active → after = { table := t, notices := [], member := none }) ∧
       (statusIn t.members x = .active →
         (∀ k, entryAt after.table.locks k = if k = l then r.2.entry else entryAt t.locks k) ∧
         after.table.members = t.members ∧ after.table.validity = t.validity ∧ after.member = none ∧
         after.notices =
           (if x = self then [LockNotice.own l r.2.outcome] else []) ++
             (r.2.grants.filter (fun g => g.station = self)).map (fun g => LockNotice.grant l g.mode g.token)))

/-- The purge of a station from a lawful lock leaves no place of it, leaves every other holder and the order of every
other waiter, counts each grant it makes, and changes nothing where the station stands nowhere (R44, R55, R57). -/
def Obligations.PurgeRemovesTheStation : Prop :=
  ∀ (members : Vector MemberEntry 16) (e : LockEntry) (x : StationId), e.Lawful members →
    let after := (purgeEntry x e).1
    let grants := (purgeEntry x e).2
    after.holds x = false ∧ after.waits x = false ∧ settled after = true ∧
    (∀ i, i ≠ x → e.holds i = true → after.holds i = true) ∧
    e.waiters.filter (fun w => w.station ≠ x) =
      grants.map (fun g => { station := g.station, mode := g.mode }) ++ after.waiters ∧
    after.grants = e.grants + BitVec.ofNat 16 grants.length ∧
    (e.holds x = false → e.waits x = false → after = e ∧ grants = [])

/-- Membership frames by Table 4-1: the entry of the station concerned, and only that entry, takes the status and the
join epoch that the table gives, and every lock is purged of it exactly where the table says so (R54, R68, R70, R71,
R72, R73). -/
def Obligations.MembershipFollowsTable4_1 : Prop :=
  ∀ (self x : StationId) (epochAfter : Word16) (t : TableEngine) (i : StationId) (l : LockId),
    let entry := entryAt t.members i
    let lock := entryAt t.locks l
    let purged := (purgeEntry x lock).1
    let gone := statusIn t.members x = .absent
    let join := (applyChange self epochAfter x .join t).table
    let ready := (applyChange self epochAfter x .ready t).table
    let leave := (applyChange self epochAfter x .leave t).table
    let evict (sender : StationId) := (applyChange self epochAfter sender (.evict x) t).table
    entryAt join.members i = (if i = x then { status := .joining, joinEpoch := epochAfter } else entry) ∧
    entryAt join.locks l = (if gone then lock else purged) ∧
    entryAt ready.members i =
      (if i = x ∧ entry.status = .joining then { status := .active, joinEpoch := 0 } else entry) ∧
    entryAt ready.locks l = lock ∧
    entryAt leave.members i = (if i = x then { status := .absent, joinEpoch := 0 } else entry) ∧
    entryAt leave.locks l = purged ∧
    ∀ sender,
      entryAt (evict sender).members i =
        (if i = x ∧ ¬ gone then { status := .absent, joinEpoch := 0 } else entry) ∧
      entryAt (evict sender).locks l = (if gone then lock else purged)

/-- The join queue: its head among the entries that pass a test is a JOINING one of the greatest age, and of the lowest
station number where ages are equal. The donor is the lowest-numbered ACTIVE station (R66, R67). -/
def Obligations.JoinQueueAndDonor : Prop :=
  ∀ (members : Vector MemberEntry 16) (epoch : Word16) (p : StationId → Bool) (x : StationId),
    let age (i : StationId) : Nat := (epoch - (entryAt members i).joinEpoch).toNat
    let stands (i : StationId) : Prop := statusIn members i = .joining ∧ p i = true
    (oldestJoining members epoch p = some x ↔
      stands x ∧ ∀ i, stands i → i ≠ x → age i < age x ∨ (age i = age x ∧ x < i)) ∧
    (oldestJoining members epoch p = none ↔ ∀ i, ¬ stands i) ∧
    (donorOf members = some x ↔ statusIn members x = .active ∧ ∀ i, statusIn members i = .active → x ≤ i)

/-! ### Intents -/

/-- Outcome notices. An own ACQUIRE's outcome finds the intent REQUESTING and acts as Table 8-3 gives; a grant of the
grant rule makes a WAITING intent HELD, and overtakes a CANCELLING one, whose CANCEL off the wire is withdrawn; RELEASED
and CANCELLED end a RELEASING and a CANCELLING intent (R146, R147, R148, R151). A GRANTED at any other intent, but for one
of the own ACQUIRE at WAITING or CANCELLING, makes it HELD without OVERTAKEN and leaves its entries queued; the TRY flag
and the wait limit that it then has, where they were absent, are free values (the model's choice, log 13). Every other
notice at a state that the rules do not name for it makes the intent IDLE with LOST, and the frames of the lock that are
not on the wire are withdrawn (R149). -/
def Obligations.NoticesMoveTheIntent : Prop :=
  (∀ (s : State) (l : LockId) (m : Mode) (token : Word16) (n : Nat), ∃ (try_ : Bool) (limit : Word16),
    let r := s.intent l
    let held : IntentRecord :=
      { state := .held, mode := some m, tryFlag := some try_, waitLimit := some limit, cause := none, mark := none,
        token := some token, outstanding := none }
    let holds (t : State) (overtaken : Bool) : Prop :=
      t.intent l = held ∧ (∀ k, k ≠ l → t.intent k = s.intent k) ∧ entryAt t.intents.timers l = .stopped ∧
        t.events = s.events.place (.lock l (.granted m token overtaken)) ∧ t.intents.queue = s.intents.queue ∧
        t.table = s.table ∧ t.ctrl = s.ctrl
    (∀ b, r.tryFlag = some b → try_ = b) ∧ (∀ w, r.waitLimit = some w → limit = w) ∧
    (r.state = .requesting → s.acquireOnWire l = true →
      holds (s.takeNotice (.own l (.granted m token))) r.mark.isSome ∧
      (r.mark = none →
        s.takeNotice (.own l (.queued m n)) = (s.setIntent l { r with state := .waiting }).raiseLock l (.queued m n)) ∧
      ∀ cause, r.mark = some cause →
        s.takeNotice (.own l (.queued m n)) =
          s.setIntent l
            { r with state := .cancelling, cause := some cause, mark := none, outstanding := some .due }) ∧
    (r.state = .waiting → holds (s.takeNotice (.grant l m token)) false) ∧
    (r.state = .cancelling → s.sel.onWire = false →
      holds (s.takeNotice (.grant l m token)) true ∧
      (s.takeNotice (.grant l m token)).sel.offered ≠ some (.cancel l)) ∧
    (r.state = .idle ∨ r.state = .held ∨ r.state = .releasing ∨ (r.state = .requesting ∧ s.acquireOnWire l = false) →
      holds (s.takeNotice (.grant l m token)) false ∧ holds (s.takeNotice (.own l (.granted m token))) false)) ∧
  ∀ (s : State) (l : LockId),
    let r := s.intent l
    let ends (o : RequestOutcome) (ev : LockOutcome) : Prop := s.GivesUp (s.takeNotice (.own l o)) l ev
    (if r.state = .requesting then ends .denied .denied else ends .denied .lost ∧ ∀ m n, ends (.queued m n) .lost) ∧
    (if r.state = .releasing then ends .released .released else ends .released .lost) ∧
    (r.state ≠ .cancelling → ends .cancelled .lost) ∧
    (∀ cause, r.state = .cancelling → r.cause = some cause →
      ends .cancelled (match cause with | .host => .cancelled | .timeout => .timedOut)) ∧
    ends .duplicate .lost ∧ ends .releaseNoop .lost ∧ ends .cancelVoid .lost

/-! ### Frames -/

/-- The cells of a frame's body: 35 + 8n of them for n bytes of payload; SOF is a 0 cell; the ten cells of the
arbitration field follow, and of two frames the one with the lower field has the lower kind code, or the same code and
the lower sender; the eight cells after them are LENGTH, the number of payload bytes, and where the kind has a fixed
length the payload has that many bytes (R7, R8, R11). -/
def Obligations.BodyCellsFollowTheLayout : Prop :=
  ∀ f g : Frame,
    (bodyCells (rawOf f)).length = 35 + 8 * f.content.payload.length ∧ (bodyCells (rawOf f)).head? = some false ∧
    ((bodyCells (rawOf f)).drop 1).take 10 = bitsOf (arbitrationField (rawOf f)) ∧
    ((bodyCells (rawOf f)).drop 11).take 8 = bitsOf (BitVec.ofNat 8 f.content.payload.length) ∧
    (arbitrationField (rawOf f) < arbitrationField (rawOf g) ↔
      codeOf f.content.kind < codeOf g.content.kind ∨
        (codeOf f.content.kind = codeOf g.content.kind ∧ f.sender < g.sender)) ∧
    ∀ n, fixedLength f.content.kind = some n → f.content.payload.length = n

/-- Every frame that a station can send is read back by every other station as it was sent: its slots can be placed,
its fields are valid, its CRC matches, and no format fault is found, for every kind and every field at every value it
can have (R7, R8, R9, R15, R16, Tables 12-2 to 12-7). A frame's slots can be placed where its kind code is listed and
its LENGTH is the kind's, or 6 to 56 for a SNAPSHOT; an unknown kind and a length fault are the rest (R16). Of a frame
whose slots can be placed, the format faults are these and no others: a CRC that does not match; this station's own id
as the sender; a lock of 64 or above; a mode byte that is not defined; a target above 15; of a SNAPSHOT an index above
32, for index 0 a LENGTH other than 54 or a status byte above 2, and for index 1 to 32 a content that is not two lock
entries, one after the other, each with a mode of at most 2, a count of at most 15 and that many waiter bytes below 32
(R15). -/
def Obligations.FramesAreReadAsSent : Prop :=
  (∀ f : Frame,
    (∀ target e j pair first second, f.content = .snapshot target e j (.locks pair first second) →
      first.waiters.length ≤ 15 ∧ second.waiters.length ≤ 15) →
    placeable (rawOf f) = true ∧ contentOf (rawOf f) = some f.content ∧
      ∀ receiver, receiver ≠ f.sender → formatFaultOf (rawOf f) receiver = false) ∧
  (let lengths : List (BitVec 6 × Byte) :=
     [(0x02, 0), (0x04, 0), (0x06, 3), (0x08, 2), (0x0A, 2), (0x21, 4), (0x22, 3), (0x23, 3), (0x31, 2)]
   let codes : List (BitVec 6) := [0x02, 0x04, 0x06, 0x08, 0x0A, 0x12, 0x21, 0x22, 0x23, 0x31]
   let fits (code : BitVec 6) (length : Byte) : Prop :=
     (code, length) ∈ lengths ∨ (code = 0x12 ∧ 6 ≤ length.toNat ∧ length.toNat ≤ 56)
   (∀ raw : RawFrame, raw.wf = true ↔ fits raw.code raw.length ∧ raw.payload.length = raw.length.toNat) ∧
   (∀ code, FlagCause.wf (.unknownKind code) = true ↔ code ∉ codes) ∧
   ∀ code sender length, FlagCause.wf (.lengthFault code sender length) = true ↔ code ∈ codes ∧ ¬ fits code length) ∧
  (∀ (raw : RawFrame) (receiver : StationId), raw.wf = true →
     let entry (bytes : List Byte) : Prop :=
       ∃ mode h1 h0 g1 g0 count waiters, bytes = mode :: h1 :: h0 :: g1 :: g0 :: count :: waiters ∧ mode.toNat ≤ 2 ∧
         count.toNat ≤ 15 ∧ waiters.length = count.toNat ∧ ∀ w ∈ waiters, w.toNat < 32
     (formatFaultOf raw receiver = true ↔
       raw.crc ≠ crcOf raw.code raw.sender raw.length raw.payload ∨ raw.sender = receiver ∨
       (raw.code ∈ ([0x21, 0x22, 0x23] : List (BitVec 6)) ∧ ∃ lock, raw.payload[2]? = some lock ∧ 64 ≤ lock.toNat) ∨
       (raw.code = 0x21 ∧ ∃ mode, raw.payload[3]? = some mode ∧ mode ∉ ([0x00, 0x01, 0x80, 0x81] : List Byte)) ∨
       (raw.code = 0x06 ∧ ∃ target, raw.payload[2]? = some target ∧ 16 ≤ target.toNat) ∨
       (raw.code = 0x12 ∧ ∃ target e1 e0 j1 j0 index content,
         raw.payload = target :: e1 :: e0 :: j1 :: j0 :: index :: content ∧
         (16 ≤ target.toNat ∨ 33 ≤ index.toNat ∨
          (index = 0 ∧ (raw.length ≠ 54 ∨ ∃ i < 16, ∃ status, content[3 * i]? = some status ∧ 3 ≤ status.toNat)) ∨
          (1 ≤ index.toNat ∧ index.toNat ≤ 32 ∧ ¬ ∃ first second, content = first ++ second ∧ entry first ∧ entry second)))))

/-! ### What every step keeps -/

/-- Every step keeps the law of the event queue: one entry for each key, merged counts from 1 to 15, ATTN asserted while
there is an entry, and a read record that names the head; such a queue holds at most 71 entries, so no event finds it
full (R158, R160, R161, R163, R164, R165, R166). -/
def Obligations.EveryStepKeepsTheEventQueue : Prop :=
  ∀ s t : State, s.events.Lawful → step s = .next t → t.events.Lawful ∧ t.events.entries.length ≤ 71

/-- Every step keeps every count within its limit: the request queue, the catch-up log, the discard count, the failure
and attempt counts, the dominant count and the bytes shifted out (R33, R96, R110, R112, R116, R140, R169). That the
dominant count stops at 32 and the failure count at 16 is the model's choice: R6 gives its count no upper limit (log 28,
log 6). -/
def Obligations.EveryStepKeepsTheLimits : Prop :=
  ∀ s t : State, s.WithinLimits → step s = .next t → t.WithinLimits

/-- Every step keeps the laws of the lock table: modes agree with holders, no station stands twice in a lock, at most 16
stand there, every one of them is ACTIVE, and no head could be granted (R42, R43, R46, R57, R59). It holds of the blank
entries of a discarded table too, which are the model's choice (log 12). -/
def Obligations.EveryStepKeepsTheLockTable : Prop :=
  ∀ s t : State, s.table.Lawful → step s = .next t → t.table.Lawful

/-- Two stations in step stay in step: with equal COMPLETE tables and equal epochs, the delivery of the same committed
frame, sent by either of them or by a third, leaves them equal tables and equal epochs, unless one of them has left the
group by it (R26, R27, R47, 2.3). -/
def Obligations.StationsInStepStayInStep : Prop :=
  ∀ (a b ta tb : State) (slotsA slotsB : Slots) (da db : Delivery) (f : Frame), a.Delivers slotsA da →
    b.Delivers slotsB db → da.frame = some f → db.frame = some f → da.verdict = .passed → db.verdict = .passed →
    f.content.change?.isSome = true → a.table.validity = .complete → a.table = b.table →
    a.commit.epoch = b.commit.epoch → a.commit.epoch.isSome = true →
    exec (.frameDelivery slotsA) a = .next ta → exec (.frameDelivery slotsB) b = .next tb →
    ta.table.validity = .complete → tb.table.validity = .complete →
    ta.table = tb.table ∧ ta.commit.epoch = tb.commit.epoch
end

