-- ==== Sys2Proof/Laws/State.lean ====
section
/-! SUPPORT. The small lemmas of the named updates of Machine/Ops.lean: what each update leaves in each field. -/

namespace Sys2Proof.Machine

/-! ### setLine -/

@[simp] theorem State.setLine_inReset (s : State) (x : LineUnit) : (s.setLine x).inReset = s.inReset := rfl
@[simp] theorem State.setLine_ncsLow (s : State) (x : LineUnit) : (s.setLine x).ncsLow = s.ncsLow := rfl
@[simp] theorem State.setLine_line (s : State) (x : LineUnit) : (s.setLine x).line = x := rfl
@[simp] theorem State.setLine_commit (s : State) (x : LineUnit) : (s.setLine x).commit = s.commit := rfl
@[simp] theorem State.setLine_table (s : State) (x : LineUnit) : (s.setLine x).table = s.table := rfl
@[simp] theorem State.setLine_transfer (s : State) (x : LineUnit) : (s.setLine x).transfer = s.transfer := rfl
@[simp] theorem State.setLine_ctrl (s : State) (x : LineUnit) : (s.setLine x).ctrl = s.ctrl := rfl
@[simp] theorem State.setLine_intents (s : State) (x : LineUnit) : (s.setLine x).intents = s.intents := rfl
@[simp] theorem State.setLine_sel (s : State) (x : LineUnit) : (s.setLine x).sel = s.sel := rfl
@[simp] theorem State.setLine_events (s : State) (x : LineUnit) : (s.setLine x).events = s.events := rfl
@[simp] theorem State.setLine_port (s : State) (x : LineUnit) : (s.setLine x).port = s.port := rfl
@[simp] theorem State.setLine_free (s : State) (x : LineUnit) : (s.setLine x).free = s.free := rfl
@[simp] theorem State.setLine_pending (s : State) (x : LineUnit) : (s.setLine x).pending = s.pending := rfl

/-! ### setCommit -/

@[simp] theorem State.setCommit_inReset (s : State) (x : CommitUnit) : (s.setCommit x).inReset = s.inReset := rfl
@[simp] theorem State.setCommit_ncsLow (s : State) (x : CommitUnit) : (s.setCommit x).ncsLow = s.ncsLow := rfl
@[simp] theorem State.setCommit_line (s : State) (x : CommitUnit) : (s.setCommit x).line = s.line := rfl
@[simp] theorem State.setCommit_commit (s : State) (x : CommitUnit) : (s.setCommit x).commit = x := rfl
@[simp] theorem State.setCommit_table (s : State) (x : CommitUnit) : (s.setCommit x).table = s.table := rfl
@[simp] theorem State.setCommit_transfer (s : State) (x : CommitUnit) : (s.setCommit x).transfer = s.transfer := rfl
@[simp] theorem State.setCommit_ctrl (s : State) (x : CommitUnit) : (s.setCommit x).ctrl = s.ctrl := rfl
@[simp] theorem State.setCommit_intents (s : State) (x : CommitUnit) : (s.setCommit x).intents = s.intents := rfl
@[simp] theorem State.setCommit_sel (s : State) (x : CommitUnit) : (s.setCommit x).sel = s.sel := rfl
@[simp] theorem State.setCommit_events (s : State) (x : CommitUnit) : (s.setCommit x).events = s.events := rfl
@[simp] theorem State.setCommit_port (s : State) (x : CommitUnit) : (s.setCommit x).port = s.port := rfl
@[simp] theorem State.setCommit_free (s : State) (x : CommitUnit) : (s.setCommit x).free = s.free := rfl
@[simp] theorem State.setCommit_pending (s : State) (x : CommitUnit) : (s.setCommit x).pending = s.pending := rfl

/-! ### setTable -/

@[simp] theorem State.setTable_inReset (s : State) (x : TableEngine) : (s.setTable x).inReset = s.inReset := rfl
@[simp] theorem State.setTable_ncsLow (s : State) (x : TableEngine) : (s.setTable x).ncsLow = s.ncsLow := rfl
@[simp] theorem State.setTable_line (s : State) (x : TableEngine) : (s.setTable x).line = s.line := rfl
@[simp] theorem State.setTable_commit (s : State) (x : TableEngine) : (s.setTable x).commit = s.commit := rfl
@[simp] theorem State.setTable_table (s : State) (x : TableEngine) : (s.setTable x).table = x := rfl
@[simp] theorem State.setTable_transfer (s : State) (x : TableEngine) : (s.setTable x).transfer = s.transfer := rfl
@[simp] theorem State.setTable_ctrl (s : State) (x : TableEngine) : (s.setTable x).ctrl = s.ctrl := rfl
@[simp] theorem State.setTable_intents (s : State) (x : TableEngine) : (s.setTable x).intents = s.intents := rfl
@[simp] theorem State.setTable_sel (s : State) (x : TableEngine) : (s.setTable x).sel = s.sel := rfl
@[simp] theorem State.setTable_events (s : State) (x : TableEngine) : (s.setTable x).events = s.events := rfl
@[simp] theorem State.setTable_port (s : State) (x : TableEngine) : (s.setTable x).port = s.port := rfl
@[simp] theorem State.setTable_free (s : State) (x : TableEngine) : (s.setTable x).free = s.free := rfl
@[simp] theorem State.setTable_pending (s : State) (x : TableEngine) : (s.setTable x).pending = s.pending := rfl

/-! ### setTransfer -/

@[simp] theorem State.setTransfer_inReset (s : State) (x : TransferUnit) : (s.setTransfer x).inReset = s.inReset := rfl
@[simp] theorem State.setTransfer_ncsLow (s : State) (x : TransferUnit) : (s.setTransfer x).ncsLow = s.ncsLow := rfl
@[simp] theorem State.setTransfer_line (s : State) (x : TransferUnit) : (s.setTransfer x).line = s.line := rfl
@[simp] theorem State.setTransfer_commit (s : State) (x : TransferUnit) : (s.setTransfer x).commit = s.commit := rfl
@[simp] theorem State.setTransfer_table (s : State) (x : TransferUnit) : (s.setTransfer x).table = s.table := rfl
@[simp] theorem State.setTransfer_transfer (s : State) (x : TransferUnit) : (s.setTransfer x).transfer = x := rfl
@[simp] theorem State.setTransfer_ctrl (s : State) (x : TransferUnit) : (s.setTransfer x).ctrl = s.ctrl := rfl
@[simp] theorem State.setTransfer_intents (s : State) (x : TransferUnit) : (s.setTransfer x).intents = s.intents := rfl
@[simp] theorem State.setTransfer_sel (s : State) (x : TransferUnit) : (s.setTransfer x).sel = s.sel := rfl
@[simp] theorem State.setTransfer_events (s : State) (x : TransferUnit) : (s.setTransfer x).events = s.events := rfl
@[simp] theorem State.setTransfer_port (s : State) (x : TransferUnit) : (s.setTransfer x).port = s.port := rfl
@[simp] theorem State.setTransfer_free (s : State) (x : TransferUnit) : (s.setTransfer x).free = s.free := rfl
@[simp] theorem State.setTransfer_pending (s : State) (x : TransferUnit) : (s.setTransfer x).pending = s.pending := rfl

/-! ### setCtrl -/

@[simp] theorem State.setCtrl_inReset (s : State) (x : Controller) : (s.setCtrl x).inReset = s.inReset := rfl
@[simp] theorem State.setCtrl_ncsLow (s : State) (x : Controller) : (s.setCtrl x).ncsLow = s.ncsLow := rfl
@[simp] theorem State.setCtrl_line (s : State) (x : Controller) : (s.setCtrl x).line = s.line := rfl
@[simp] theorem State.setCtrl_commit (s : State) (x : Controller) : (s.setCtrl x).commit = s.commit := rfl
@[simp] theorem State.setCtrl_table (s : State) (x : Controller) : (s.setCtrl x).table = s.table := rfl
@[simp] theorem State.setCtrl_transfer (s : State) (x : Controller) : (s.setCtrl x).transfer = s.transfer := rfl
@[simp] theorem State.setCtrl_ctrl (s : State) (x : Controller) : (s.setCtrl x).ctrl = x := rfl
@[simp] theorem State.setCtrl_intents (s : State) (x : Controller) : (s.setCtrl x).intents = s.intents := rfl
@[simp] theorem State.setCtrl_sel (s : State) (x : Controller) : (s.setCtrl x).sel = s.sel := rfl
@[simp] theorem State.setCtrl_events (s : State) (x : Controller) : (s.setCtrl x).events = s.events := rfl
@[simp] theorem State.setCtrl_port (s : State) (x : Controller) : (s.setCtrl x).port = s.port := rfl
@[simp] theorem State.setCtrl_free (s : State) (x : Controller) : (s.setCtrl x).free = s.free := rfl
@[simp] theorem State.setCtrl_pending (s : State) (x : Controller) : (s.setCtrl x).pending = s.pending := rfl

/-! ### setIntents -/

@[simp] theorem State.setIntents_inReset (s : State) (x : IntentUnit) : (s.setIntents x).inReset = s.inReset := rfl
@[simp] theorem State.setIntents_ncsLow (s : State) (x : IntentUnit) : (s.setIntents x).ncsLow = s.ncsLow := rfl
@[simp] theorem State.setIntents_line (s : State) (x : IntentUnit) : (s.setIntents x).line = s.line := rfl
@[simp] theorem State.setIntents_commit (s : State) (x : IntentUnit) : (s.setIntents x).commit = s.commit := rfl
@[simp] theorem State.setIntents_table (s : State) (x : IntentUnit) : (s.setIntents x).table = s.table := rfl
@[simp] theorem State.setIntents_transfer (s : State) (x : IntentUnit) : (s.setIntents x).transfer = s.transfer := rfl
@[simp] theorem State.setIntents_ctrl (s : State) (x : IntentUnit) : (s.setIntents x).ctrl = s.ctrl := rfl
@[simp] theorem State.setIntents_intents (s : State) (x : IntentUnit) : (s.setIntents x).intents = x := rfl
@[simp] theorem State.setIntents_sel (s : State) (x : IntentUnit) : (s.setIntents x).sel = s.sel := rfl
@[simp] theorem State.setIntents_events (s : State) (x : IntentUnit) : (s.setIntents x).events = s.events := rfl
@[simp] theorem State.setIntents_port (s : State) (x : IntentUnit) : (s.setIntents x).port = s.port := rfl
@[simp] theorem State.setIntents_free (s : State) (x : IntentUnit) : (s.setIntents x).free = s.free := rfl
@[simp] theorem State.setIntents_pending (s : State) (x : IntentUnit) : (s.setIntents x).pending = s.pending := rfl

/-! ### setSel -/

@[simp] theorem State.setSel_inReset (s : State) (x : Selector) : (s.setSel x).inReset = s.inReset := rfl
@[simp] theorem State.setSel_ncsLow (s : State) (x : Selector) : (s.setSel x).ncsLow = s.ncsLow := rfl
@[simp] theorem State.setSel_line (s : State) (x : Selector) : (s.setSel x).line = s.line := rfl
@[simp] theorem State.setSel_commit (s : State) (x : Selector) : (s.setSel x).commit = s.commit := rfl
@[simp] theorem State.setSel_table (s : State) (x : Selector) : (s.setSel x).table = s.table := rfl
@[simp] theorem State.setSel_transfer (s : State) (x : Selector) : (s.setSel x).transfer = s.transfer := rfl
@[simp] theorem State.setSel_ctrl (s : State) (x : Selector) : (s.setSel x).ctrl = s.ctrl := rfl
@[simp] theorem State.setSel_intents (s : State) (x : Selector) : (s.setSel x).intents = s.intents := rfl
@[simp] theorem State.setSel_sel (s : State) (x : Selector) : (s.setSel x).sel = x := rfl
@[simp] theorem State.setSel_events (s : State) (x : Selector) : (s.setSel x).events = s.events := rfl
@[simp] theorem State.setSel_port (s : State) (x : Selector) : (s.setSel x).port = s.port := rfl
@[simp] theorem State.setSel_free (s : State) (x : Selector) : (s.setSel x).free = s.free := rfl
@[simp] theorem State.setSel_pending (s : State) (x : Selector) : (s.setSel x).pending = s.pending := rfl

/-! ### setEvents -/

@[simp] theorem State.setEvents_inReset (s : State) (x : EventQueue) : (s.setEvents x).inReset = s.inReset := rfl
@[simp] theorem State.setEvents_ncsLow (s : State) (x : EventQueue) : (s.setEvents x).ncsLow = s.ncsLow := rfl
@[simp] theorem State.setEvents_line (s : State) (x : EventQueue) : (s.setEvents x).line = s.line := rfl
@[simp] theorem State.setEvents_commit (s : State) (x : EventQueue) : (s.setEvents x).commit = s.commit := rfl
@[simp] theorem State.setEvents_table (s : State) (x : EventQueue) : (s.setEvents x).table = s.table := rfl
@[simp] theorem State.setEvents_transfer (s : State) (x : EventQueue) : (s.setEvents x).transfer = s.transfer := rfl
@[simp] theorem State.setEvents_ctrl (s : State) (x : EventQueue) : (s.setEvents x).ctrl = s.ctrl := rfl
@[simp] theorem State.setEvents_intents (s : State) (x : EventQueue) : (s.setEvents x).intents = s.intents := rfl
@[simp] theorem State.setEvents_sel (s : State) (x : EventQueue) : (s.setEvents x).sel = s.sel := rfl
@[simp] theorem State.setEvents_events (s : State) (x : EventQueue) : (s.setEvents x).events = x := rfl
@[simp] theorem State.setEvents_port (s : State) (x : EventQueue) : (s.setEvents x).port = s.port := rfl
@[simp] theorem State.setEvents_free (s : State) (x : EventQueue) : (s.setEvents x).free = s.free := rfl
@[simp] theorem State.setEvents_pending (s : State) (x : EventQueue) : (s.setEvents x).pending = s.pending := rfl

/-! ### setPort -/

@[simp] theorem State.setPort_inReset (s : State) (x : HostPort) : (s.setPort x).inReset = s.inReset := rfl
@[simp] theorem State.setPort_ncsLow (s : State) (x : HostPort) : (s.setPort x).ncsLow = s.ncsLow := rfl
@[simp] theorem State.setPort_line (s : State) (x : HostPort) : (s.setPort x).line = s.line := rfl
@[simp] theorem State.setPort_commit (s : State) (x : HostPort) : (s.setPort x).commit = s.commit := rfl
@[simp] theorem State.setPort_table (s : State) (x : HostPort) : (s.setPort x).table = s.table := rfl
@[simp] theorem State.setPort_transfer (s : State) (x : HostPort) : (s.setPort x).transfer = s.transfer := rfl
@[simp] theorem State.setPort_ctrl (s : State) (x : HostPort) : (s.setPort x).ctrl = s.ctrl := rfl
@[simp] theorem State.setPort_intents (s : State) (x : HostPort) : (s.setPort x).intents = s.intents := rfl
@[simp] theorem State.setPort_sel (s : State) (x : HostPort) : (s.setPort x).sel = s.sel := rfl
@[simp] theorem State.setPort_events (s : State) (x : HostPort) : (s.setPort x).events = s.events := rfl
@[simp] theorem State.setPort_port (s : State) (x : HostPort) : (s.setPort x).port = x := rfl
@[simp] theorem State.setPort_free (s : State) (x : HostPort) : (s.setPort x).free = s.free := rfl
@[simp] theorem State.setPort_pending (s : State) (x : HostPort) : (s.setPort x).pending = s.pending := rfl

/-! ### setNcs -/

@[simp] theorem State.setNcs_inReset (s : State) (x : Bool) : (s.setNcs x).inReset = s.inReset := rfl
@[simp] theorem State.setNcs_ncsLow (s : State) (x : Bool) : (s.setNcs x).ncsLow = x := rfl
@[simp] theorem State.setNcs_line (s : State) (x : Bool) : (s.setNcs x).line = s.line := rfl
@[simp] theorem State.setNcs_commit (s : State) (x : Bool) : (s.setNcs x).commit = s.commit := rfl
@[simp] theorem State.setNcs_table (s : State) (x : Bool) : (s.setNcs x).table = s.table := rfl
@[simp] theorem State.setNcs_transfer (s : State) (x : Bool) : (s.setNcs x).transfer = s.transfer := rfl
@[simp] theorem State.setNcs_ctrl (s : State) (x : Bool) : (s.setNcs x).ctrl = s.ctrl := rfl
@[simp] theorem State.setNcs_intents (s : State) (x : Bool) : (s.setNcs x).intents = s.intents := rfl
@[simp] theorem State.setNcs_sel (s : State) (x : Bool) : (s.setNcs x).sel = s.sel := rfl
@[simp] theorem State.setNcs_events (s : State) (x : Bool) : (s.setNcs x).events = s.events := rfl
@[simp] theorem State.setNcs_port (s : State) (x : Bool) : (s.setNcs x).port = s.port := rfl
@[simp] theorem State.setNcs_free (s : State) (x : Bool) : (s.setNcs x).free = s.free := rfl
@[simp] theorem State.setNcs_pending (s : State) (x : Bool) : (s.setNcs x).pending = s.pending := rfl

/-! ### setPending -/

@[simp] theorem State.setPending_inReset (s : State) (x : List Instr) : (s.setPending x).inReset = s.inReset := rfl
@[simp] theorem State.setPending_ncsLow (s : State) (x : List Instr) : (s.setPending x).ncsLow = s.ncsLow := rfl
@[simp] theorem State.setPending_line (s : State) (x : List Instr) : (s.setPending x).line = s.line := rfl
@[simp] theorem State.setPending_commit (s : State) (x : List Instr) : (s.setPending x).commit = s.commit := rfl
@[simp] theorem State.setPending_table (s : State) (x : List Instr) : (s.setPending x).table = s.table := rfl
@[simp] theorem State.setPending_transfer (s : State) (x : List Instr) : (s.setPending x).transfer = s.transfer := rfl
@[simp] theorem State.setPending_ctrl (s : State) (x : List Instr) : (s.setPending x).ctrl = s.ctrl := rfl
@[simp] theorem State.setPending_intents (s : State) (x : List Instr) : (s.setPending x).intents = s.intents := rfl
@[simp] theorem State.setPending_sel (s : State) (x : List Instr) : (s.setPending x).sel = s.sel := rfl
@[simp] theorem State.setPending_events (s : State) (x : List Instr) : (s.setPending x).events = s.events := rfl
@[simp] theorem State.setPending_port (s : State) (x : List Instr) : (s.setPending x).port = s.port := rfl
@[simp] theorem State.setPending_free (s : State) (x : List Instr) : (s.setPending x).free = s.free := rfl
@[simp] theorem State.setPending_pending (s : State) (x : List Instr) : (s.setPending x).pending = x := rfl

/-! ### nextFree -/

@[simp] theorem State.nextFree_inReset (s : State) : s.nextFree.inReset = s.inReset := rfl
@[simp] theorem State.nextFree_ncsLow (s : State) : s.nextFree.ncsLow = s.ncsLow := rfl
@[simp] theorem State.nextFree_line (s : State) : s.nextFree.line = s.line := rfl
@[simp] theorem State.nextFree_commit (s : State) : s.nextFree.commit = s.commit := rfl
@[simp] theorem State.nextFree_table (s : State) : s.nextFree.table = s.table := rfl
@[simp] theorem State.nextFree_transfer (s : State) : s.nextFree.transfer = s.transfer := rfl
@[simp] theorem State.nextFree_ctrl (s : State) : s.nextFree.ctrl = s.ctrl := rfl
@[simp] theorem State.nextFree_intents (s : State) : s.nextFree.intents = s.intents := rfl
@[simp] theorem State.nextFree_sel (s : State) : s.nextFree.sel = s.sel := rfl
@[simp] theorem State.nextFree_events (s : State) : s.nextFree.events = s.events := rfl
@[simp] theorem State.nextFree_port (s : State) : s.nextFree.port = s.port := rfl
@[simp] theorem State.nextFree_free (s : State) : s.nextFree.free = s.free + 1 := rfl
@[simp] theorem State.nextFree_pending (s : State) : s.nextFree.pending = s.pending := rfl

/-! ### setIntent, setWaitTimer and raise, by the blocks they leave alone -/

@[simp] theorem State.setIntent_inReset (s : State) (l : LockId) (r : IntentRecord) : (s.setIntent l r).inReset = s.inReset := rfl
@[simp] theorem State.setIntent_ncsLow (s : State) (l : LockId) (r : IntentRecord) : (s.setIntent l r).ncsLow = s.ncsLow := rfl
@[simp] theorem State.setIntent_line (s : State) (l : LockId) (r : IntentRecord) : (s.setIntent l r).line = s.line := rfl
@[simp] theorem State.setIntent_commit (s : State) (l : LockId) (r : IntentRecord) : (s.setIntent l r).commit = s.commit := rfl
@[simp] theorem State.setIntent_table (s : State) (l : LockId) (r : IntentRecord) : (s.setIntent l r).table = s.table := rfl
@[simp] theorem State.setIntent_transfer (s : State) (l : LockId) (r : IntentRecord) : (s.setIntent l r).transfer = s.transfer := rfl
@[simp] theorem State.setIntent_ctrl (s : State) (l : LockId) (r : IntentRecord) : (s.setIntent l r).ctrl = s.ctrl := rfl
@[simp] theorem State.setIntent_sel (s : State) (l : LockId) (r : IntentRecord) : (s.setIntent l r).sel = s.sel := rfl
@[simp] theorem State.setIntent_events (s : State) (l : LockId) (r : IntentRecord) : (s.setIntent l r).events = s.events := rfl
@[simp] theorem State.setIntent_port (s : State) (l : LockId) (r : IntentRecord) : (s.setIntent l r).port = s.port := rfl
@[simp] theorem State.setIntent_free (s : State) (l : LockId) (r : IntentRecord) : (s.setIntent l r).free = s.free := rfl
@[simp] theorem State.setIntent_pending (s : State) (l : LockId) (r : IntentRecord) : (s.setIntent l r).pending = s.pending := rfl

@[simp] theorem State.setWaitTimer_inReset (s : State) (l : LockId) (t : Timer) : (s.setWaitTimer l t).inReset = s.inReset := rfl
@[simp] theorem State.setWaitTimer_ncsLow (s : State) (l : LockId) (t : Timer) : (s.setWaitTimer l t).ncsLow = s.ncsLow := rfl
@[simp] theorem State.setWaitTimer_line (s : State) (l : LockId) (t : Timer) : (s.setWaitTimer l t).line = s.line := rfl
@[simp] theorem State.setWaitTimer_commit (s : State) (l : LockId) (t : Timer) : (s.setWaitTimer l t).commit = s.commit := rfl
@[simp] theorem State.setWaitTimer_table (s : State) (l : LockId) (t : Timer) : (s.setWaitTimer l t).table = s.table := rfl
@[simp] theorem State.setWaitTimer_transfer (s : State) (l : LockId) (t : Timer) : (s.setWaitTimer l t).transfer = s.transfer := rfl
@[simp] theorem State.setWaitTimer_ctrl (s : State) (l : LockId) (t : Timer) : (s.setWaitTimer l t).ctrl = s.ctrl := rfl
@[simp] theorem State.setWaitTimer_sel (s : State) (l : LockId) (t : Timer) : (s.setWaitTimer l t).sel = s.sel := rfl
@[simp] theorem State.setWaitTimer_events (s : State) (l : LockId) (t : Timer) : (s.setWaitTimer l t).events = s.events := rfl
@[simp] theorem State.setWaitTimer_port (s : State) (l : LockId) (t : Timer) : (s.setWaitTimer l t).port = s.port := rfl
@[simp] theorem State.setWaitTimer_free (s : State) (l : LockId) (t : Timer) : (s.setWaitTimer l t).free = s.free := rfl
@[simp] theorem State.setWaitTimer_pending (s : State) (l : LockId) (t : Timer) : (s.setWaitTimer l t).pending = s.pending := rfl

@[simp] theorem State.raise_inReset (s : State) (ev : Event) : (s.raise ev).inReset = s.inReset := rfl
@[simp] theorem State.raise_ncsLow (s : State) (ev : Event) : (s.raise ev).ncsLow = s.ncsLow := rfl
@[simp] theorem State.raise_line (s : State) (ev : Event) : (s.raise ev).line = s.line := rfl
@[simp] theorem State.raise_commit (s : State) (ev : Event) : (s.raise ev).commit = s.commit := rfl
@[simp] theorem State.raise_table (s : State) (ev : Event) : (s.raise ev).table = s.table := rfl
@[simp] theorem State.raise_transfer (s : State) (ev : Event) : (s.raise ev).transfer = s.transfer := rfl
@[simp] theorem State.raise_ctrl (s : State) (ev : Event) : (s.raise ev).ctrl = s.ctrl := rfl
@[simp] theorem State.raise_intents (s : State) (ev : Event) : (s.raise ev).intents = s.intents := rfl
@[simp] theorem State.raise_sel (s : State) (ev : Event) : (s.raise ev).sel = s.sel := rfl
@[simp] theorem State.raise_port (s : State) (ev : Event) : (s.raise ev).port = s.port := rfl
@[simp] theorem State.raise_free (s : State) (ev : Event) : (s.raise ev).free = s.free := rfl
@[simp] theorem State.raise_pending (s : State) (ev : Event) : (s.raise ev).pending = s.pending := rfl

@[simp] theorem State.raise_events (s : State) (ev : Event) : (s.raise ev).events = s.events.place ev := rfl

@[simp] theorem State.setIntent_queue (s : State) (l : LockId) (r : IntentRecord) :
    (s.setIntent l r).intents.queue = s.intents.queue := rfl

@[simp] theorem State.setWaitTimer_queue (s : State) (l : LockId) (t : Timer) :
    (s.setWaitTimer l t).intents.queue = s.intents.queue := rfl

/-! ### Entries of a table -/

@[simp] theorem entryAt_setEntry_self {α : Type} {n : Nat} (t : Vector α n) (i : Fin n) (a : α) :
    entryAt (setEntry t i a) i = a := by simp [entryAt, setEntry]

theorem entryAt_setEntry_ne {α : Type} {n : Nat} (t : Vector α n) {i j : Fin n} (a : α) (h : i ≠ j) :
    entryAt (setEntry t i a) j = entryAt t j := by
  simp only [entryAt, setEntry]
  exact Vector.getElem_set_ne _ _ (fun e => h (Fin.ext e))

theorem entryAt_setEntry {α : Type} {n : Nat} (t : Vector α n) (i j : Fin n) (a : α) :
    entryAt (setEntry t i a) j = if i = j then a else entryAt t j := by
  split
  · rename_i h; subst h; simp
  · rename_i h; exact entryAt_setEntry_ne t a h

@[simp] theorem entryAt_replicate {α : Type} {n : Nat} (a : α) (i : Fin n) :
    entryAt (Vector.replicate n a) i = a := by simp [entryAt]

theorem table_ext {α : Type} {n : Nat} {t u : Vector α n} (h : ∀ i, entryAt t i = entryAt u i) : t = u :=
  Vector.ext (fun i hi => h ⟨i, hi⟩)

@[simp] theorem intent_setIntent_self (s : State) (l : LockId) (r : IntentRecord) :
    (s.setIntent l r).intent l = r := by simp [State.intent, State.setIntent]

theorem intent_setIntent_ne (s : State) {l k : LockId} (r : IntentRecord) (h : l ≠ k) :
    (s.setIntent l r).intent k = s.intent k := by
  simp [State.intent, State.setIntent, entryAt_setEntry_ne _ _ h]

@[simp] theorem intent_setWaitTimer (s : State) (l k : LockId) (t : Timer) :
    (s.setWaitTimer l t).intent k = s.intent k := rfl

end Sys2Proof.Machine
end

