-- ==== Sys2Proof/Laws/Moves.lean ====
section
/-! SUPPORT. What every operation inside the station keeps: the pins, the queue of commands, the host port, the id, the
bit rate and the configured values; the event queue changes only by events being placed in it; and no count passes its
limit unless it had passed it before. One lemma for each shared operation. -/

namespace Sys2Proof.Machine

/-- What an operation inside the station does at most. -/
structure Moves (s t : State) : Prop where
  inReset  : t.inReset = s.inReset
  ncsLow   : t.ncsLow = s.ncsLow
  pending  : t.pending = s.pending
  port     : t.port = s.port
  id       : t.ctrl.id = s.ctrl.id
  rate     : t.line.rate = s.line.rate
  p        : t.ctrl.p = s.ctrl.p
  k        : t.ctrl.k = s.ctrl.k
  jmul     : t.ctrl.jmul = s.ctrl.jmul
  events   : ∃ evs : List Event, t.events = evs.foldl EventQueue.place s.events
  queue    : t.intents.queue.length ≤ max s.intents.queue.length Config.queueCapacity
  log      : t.transfer.log.length ≤ max s.transfer.log.length Config.logCapacity
  discards : t.transfer.discards ≤ max s.transfer.discards 65535
  failures : t.commit.failures ≤ max s.commit.failures Config.failureLimit
  attempts : t.ctrl.attempts ≤ max s.ctrl.attempts Config.attemptLimit
  dominant : t.line.dominant ≤ max s.line.dominant Config.stuckLimit

theorem Moves.refl (s : State) : Moves s s where
  inReset := rfl
  ncsLow := rfl
  pending := rfl
  port := rfl
  id := rfl
  rate := rfl
  p := rfl
  k := rfl
  jmul := rfl
  events := ⟨[], rfl⟩
  queue := Nat.le_max_left _ _
  log := Nat.le_max_left _ _
  discards := Nat.le_max_left _ _
  failures := Nat.le_max_left _ _
  attempts := Nat.le_max_left _ _
  dominant := Nat.le_max_left _ _

theorem Moves.trans {s t u : State} (h : Moves s t) (g : Moves t u) : Moves s u where
  inReset := g.inReset.trans h.inReset
  ncsLow := g.ncsLow.trans h.ncsLow
  pending := g.pending.trans h.pending
  port := g.port.trans h.port
  id := g.id.trans h.id
  rate := g.rate.trans h.rate
  p := g.p.trans h.p
  k := g.k.trans h.k
  jmul := g.jmul.trans h.jmul
  events := by
    obtain ⟨a, ha⟩ := h.events
    obtain ⟨b, hb⟩ := g.events
    exact ⟨a ++ b, by rw [hb, ha, List.foldl_append]⟩
  queue := by have := h.queue; have := g.queue; omega
  log := by have := h.log; have := g.log; omega
  discards := by have := h.discards; have := g.discards; omega
  failures := by have := h.failures; have := g.failures; omega
  attempts := by have := h.attempts; have := g.attempts; omega
  dominant := by have := h.dominant; have := g.dominant; omega

/-! ### The block updates -/

variable {s t : State}

theorem moves_setLine {x : LineUnit} (r : x.rate = s.line.rate)
    (d : x.dominant ≤ max s.line.dominant Config.stuckLimit) : Moves s (s.setLine x) :=
  { Moves.refl s with rate := r, dominant := d }

theorem moves_setCommit {x : CommitUnit} (f : x.failures ≤ max s.commit.failures Config.failureLimit) :
    Moves s (s.setCommit x) :=
  { Moves.refl s with failures := f }

theorem moves_setTable (x : TableEngine) : Moves s (s.setTable x) := { Moves.refl s with }

theorem moves_setTransfer {x : TransferUnit} (l : x.log.length ≤ max s.transfer.log.length Config.logCapacity)
    (d : x.discards ≤ max s.transfer.discards 65535) : Moves s (s.setTransfer x) :=
  { Moves.refl s with log := l, discards := d }

theorem moves_setCtrl {x : Controller} (i : x.id = s.ctrl.id) (p : x.p = s.ctrl.p) (k : x.k = s.ctrl.k)
    (j : x.jmul = s.ctrl.jmul) (a : x.attempts ≤ max s.ctrl.attempts Config.attemptLimit) : Moves s (s.setCtrl x) :=
  { Moves.refl s with id := i, p := p, k := k, jmul := j, attempts := a }

theorem moves_setIntents {x : IntentUnit} (q : x.queue.length ≤ max s.intents.queue.length Config.queueCapacity) :
    Moves s (s.setIntents x) :=
  { Moves.refl s with queue := q }

theorem moves_setSel (x : Selector) : Moves s (s.setSel x) := { Moves.refl s with }

theorem moves_nextFree : Moves s s.nextFree := { Moves.refl s with }

theorem moves_raise (ev : Event) : Moves s (s.raise ev) := { Moves.refl s with events := ⟨[ev], rfl⟩ }

theorem moves_raiseLock (l : LockId) (o : LockOutcome) : Moves s (s.raiseLock l o) := moves_raise _

theorem moves_raiseStation (e : StationEvent) : Moves s (s.raiseStation e) := moves_raise _

theorem moves_foldl {α : Type} (f : State → α → State) (h : ∀ s a, Moves s (f s a)) (l : List α) :
    ∀ s, Moves s (l.foldl f s) := by
  induction l with
  | nil => exact Moves.refl
  | cons a l ih => exact fun s => (h s a).trans (ih _)

/-! ### After other moves -/

theorem Moves.thenCtrl (h : Moves s t) {x : Controller} (i : x.id = t.ctrl.id) (p : x.p = t.ctrl.p)
    (k : x.k = t.ctrl.k) (j : x.jmul = t.ctrl.jmul) (a : x.attempts ≤ max t.ctrl.attempts Config.attemptLimit) :
    Moves s (t.setCtrl x) := h.trans (moves_setCtrl i p k j a)

theorem Moves.thenCommit (h : Moves s t) {x : CommitUnit}
    (f : x.failures ≤ max t.commit.failures Config.failureLimit) : Moves s (t.setCommit x) := h.trans (moves_setCommit f)

theorem Moves.thenTransfer (h : Moves s t) {x : TransferUnit}
    (l : x.log.length ≤ max t.transfer.log.length Config.logCapacity) (d : x.discards ≤ max t.transfer.discards 65535) :
    Moves s (t.setTransfer x) := h.trans (moves_setTransfer l d)

theorem Moves.thenStation (h : Moves s t) (e : StationEvent) : Moves s (t.raiseStation e) := h.trans (moves_raiseStation e)

/-! ### Intents -/

theorem moves_setIntent (l : LockId) (r : IntentRecord) : Moves s (s.setIntent l r) :=
  moves_setIntents (Nat.le_max_left _ _)

theorem moves_setWaitTimer (l : LockId) (x : Timer) : Moves s (s.setWaitTimer l x) :=
  moves_setIntents (Nat.le_max_left _ _)

theorem moves_forgetOffer : Moves s s.forgetOffer := moves_setIntents (Nat.le_max_left _ _)

theorem moves_withdraw (p : Offered → Bool) : Moves s (s.withdraw p) := by
  unfold State.withdraw
  split
  · split
    · dsimp only
      split
      · exact (moves_setSel _).trans moves_forgetOffer
      · exact moves_setSel _
    · exact Moves.refl s
  · exact Moves.refl s

theorem moves_idleIntent (l : LockId) : Moves s (s.idleIntent l) :=
  (moves_setIntent _ _).trans (moves_setWaitTimer _ _)

theorem queueWithout_length_le (x : IntentUnit) (l : LockId) : (x.queueWithout l).length ≤ x.queue.length := by
  unfold IntentUnit.queueWithout
  split
  · simp
  · rename_i e rest h
    have shorter := List.length_filter_le (fun e => e.lock? != some l) rest
    dsimp only
    split <;> simp only [h, List.length_cons] <;> omega

theorem moves_dropFrames (l : LockId) : Moves s (s.dropFrames l) :=
  (moves_setIntents ((queueWithout_length_le _ _).trans (Nat.le_max_left _ _))).trans (moves_withdraw _)

theorem moves_endIntent (l : LockId) (o : LockOutcome) : Moves s (s.endIntent l o) :=
  ((moves_dropFrames l).trans (moves_idleIntent l)).trans (moves_raiseLock _ _)

theorem moves_holdIntent (l : LockId) (m : Mode) (token : Word16) (o : Bool) : Moves s (s.holdIntent l m token o) := by
  unfold State.holdIntent
  dsimp only
  split
  · exact ((moves_setIntent _ _).trans (moves_setWaitTimer _ _)).trans (moves_raiseLock _ _)
  · exact ((moves_nextFree.trans (moves_setIntent _ _)).trans (moves_setWaitTimer _ _)).trans (moves_raiseLock _ _)

theorem moves_strayNotice (l : LockId) : Moves s (s.strayNotice l) := moves_endIntent l .lost

theorem moves_ownOutcome (l : LockId) (o : RequestOutcome) : Moves s (s.ownOutcome l o) := by
  have grant (m : Mode) (token : Word16) : Moves s (s.grantNotice l m token) := by
    unfold State.grantNotice
    dsimp only
    split
    · exact (moves_withdraw _).trans (moves_holdIntent _ _ _ _)
    all_goals exact moves_holdIntent _ _ _ _
  have queued (m : Mode) (n : Nat) : Moves s (s.queuedNotice l m n) := by
    unfold State.queuedNotice
    dsimp only
    split
    · exact (moves_setIntent _ _).trans (moves_raiseLock _ _)
    · exact moves_setIntent _ _
    · exact moves_strayNotice l
  cases o with
  | granted m token => exact grant m token
  | queued m n => exact queued m n
  | denied =>
    show Moves s (s.deniedNotice l)
    unfold State.deniedNotice
    split
    · exact moves_endIntent _ _
    · exact moves_strayNotice l
  | released =>
    show Moves s (s.releasedNotice l)
    unfold State.releasedNotice
    split
    · exact moves_endIntent _ _
    · exact moves_strayNotice l
  | cancelled =>
    show Moves s (s.cancelledNotice l)
    unfold State.cancelledNotice
    split
    · exact moves_endIntent _ _
    · exact moves_strayNotice l
  | duplicate => exact moves_strayNotice l
  | releaseNoop => exact moves_strayNotice l
  | cancelVoid => exact moves_strayNotice l

theorem moves_voidIntents : Moves s s.voidIntents :=
  ((moves_withdraw _).trans (moves_foldl _ (fun _ _ => moves_raiseLock _ _) _ _)).trans
    (moves_setIntents (Nat.zero_le _))

theorem moves_takeNotice (n : LockNotice) : Moves s (s.takeNotice n) := by
  cases n with
  | own l o => exact moves_ownOutcome l o
  | grant l m token => exact moves_ownOutcome l (.granted m token)
  | selfPurged => exact moves_voidIntents

theorem moves_takeNotices (ns : List LockNotice) : Moves s (s.takeNotices ns) :=
  moves_foldl _ (fun _ n => moves_takeNotice n) ns s

theorem moves_enqueue (e : QueueEntry) (h : s.queueFull = false) : Moves s (s.enqueue e) := by
  refine moves_setIntents ?_
  simp only [State.queueFull, decide_eq_false_iff_not] at h
  simp only [List.length_append, List.length_singleton]
  omega

theorem moves_startCancel (l : LockId) (c : CancelCause) : Moves s (s.startCancel l c) := moves_setIntent _ _

theorem moves_giveUpRequest (l : LockId) (c : CancelCause) : Moves s (s.giveUpRequest l c) := moves_endIntent _ _

theorem moves_markIntent (l : LockId) (c : CancelCause) : Moves s (s.markIntent l c) := moves_setIntent _ _

theorem moves_acquireCommand (lock mode : Byte) (limit : Word16) : Moves s (s.acquireCommand lock mode limit).2 := by
  unfold State.acquireCommand
  split
  · exact Moves.refl s
  · split
    · exact Moves.refl s
    · split
      · split
        · exact Moves.refl s
        · split
          · exact Moves.refl s
          · rename_i h
            have full : s.queueFull = false := by simpa using h
            dsimp only
            split
            · exact (moves_setIntent _ _).trans (moves_enqueue _ full)
            · exact ((moves_setIntent _ _).trans (moves_enqueue _ full)).trans (moves_setWaitTimer _ _)
      · exact Moves.refl s

theorem moves_releaseCommand (lock : Byte) : Moves s (s.releaseCommand lock).2 := by
  unfold State.releaseCommand
  split
  · exact Moves.refl s
  · split
    · dsimp only
      split
      · exact Moves.refl s
      · split
        · exact Moves.refl s
        · rename_i h
          exact (moves_setIntent _ _).trans (moves_enqueue _ (by show s.queueFull = false; simpa using h))
    · exact Moves.refl s

theorem moves_cancelCommand (lock : Byte) : Moves s (s.cancelCommand lock).2 := by
  unfold State.cancelCommand
  split
  · exact Moves.refl s
  · split
    · exact Moves.refl s
    · split
      · exact moves_startCancel _ _
      · split
        · split
          · exact Moves.refl s
          · exact moves_markIntent _ _
        · exact moves_giveUpRequest _ _
      all_goals exact Moves.refl s

theorem moves_waitExpired (l : LockId) : Moves s (s.waitExpired l) := by
  unfold State.waitExpired
  dsimp only
  have h : Moves s (s.setWaitTimer l .stopped) := moves_setWaitTimer _ _
  split
  · split
    · split
      · exact h
      · exact h.trans (moves_markIntent _ _)
    · exact h.trans (moves_giveUpRequest _ _)
  · exact h.trans (moves_startCancel _ _)
  all_goals exact h

theorem moves_placeCancel (l : LockId) (p : CancelPlace) : Moves s (s.placeCancel l p) := by
  unfold State.placeCancel
  dsimp only
  split
  · exact moves_setIntent _ _
  · exact Moves.refl s

theorem moves_clearCancel (l : LockId) : Moves s (s.clearCancel l) := moves_setIntent _ _

theorem moves_recordOffer (f : Offered) (w : Bool) : Moves s (s.recordOffer f w) := by
  unfold State.recordOffer
  have h : Moves s (s.setIntents { s.intents with offer := some { frame := f, onWire := w } }) :=
    moves_setIntents (Nat.le_max_left _ _)
  dsimp only
  split
  · exact h.trans (moves_placeCancel _ _)
  · exact h

theorem moves_intentOfferKept (f : Offered) : Moves s (s.intentOfferKept f) := by
  unfold State.intentOfferKept
  have h : Moves s (s.recordOffer f false) := moves_recordOffer _ _
  dsimp only
  split
  · split
    · exact h.trans (moves_giveUpRequest _ _)
    · exact h
  · split
    · exact h
    · exact (h.trans (moves_withdraw _)).trans (moves_clearCancel _)
  · exact h

theorem moves_eraseEntry (e : QueueEntry) :
    Moves s (s.setIntents { s.intents with queue := s.intents.queue.erase e }) :=
  moves_setIntents ((List.length_erase_le).trans (Nat.le_max_left _ _))

theorem moves_intentOfferPassed (f : Offered) : Moves s (s.intentOfferPassed f) := by
  have h : Moves s s.forgetOffer := moves_forgetOffer
  unfold State.intentOfferPassed
  dsimp only
  split
  · exact h.trans (moves_eraseEntry _)
  · exact h.trans (moves_eraseEntry _)
  · exact h.trans (moves_eraseEntry _)
  · exact h.trans (moves_clearCancel _)
  all_goals exact h

theorem moves_intentOfferEnd (f : Offered) (r : OfferEnd) : Moves s (s.intentOfferEnd f r) := by
  cases r with
  | lost => exact moves_intentOfferKept f
  | retry => exact moves_intentOfferKept f
  | passed => exact moves_intentOfferPassed f
  | dropped => exact moves_forgetOffer

/-! ### The Station Controller -/

theorem moves_dropControl : Moves s s.dropControl :=
  (moves_withdraw _).trans (moves_setCtrl rfl rfl rfl rfl (Nat.le_max_left _ _))

theorem moves_discardTable : Moves s s.discardTable := (moves_setTable _).trans (moves_setCommit (Nat.le_max_left _ _))

theorem moves_dropTransfers : Moves s s.dropTransfers :=
  (moves_withdraw _).trans (moves_setTransfer (Nat.zero_le _) (Nat.zero_le _))

theorem moves_closeLog : Moves s s.closeLog := by
  unfold State.closeLog
  have h : Moves s (s.setTransfer s.transfer.closeLog) := moves_setTransfer (Nat.zero_le _) (Nat.zero_le _)
  dsimp only
  split
  · exact h.trans (moves_setTable _)
  · exact h

theorem moves_clearYield : Moves s s.clearYield := moves_setSel _

theorem abort_rate (u : LineUnit) : u.abort.rate = u.rate := by
  unfold LineUnit.abort; split <;> rfl

theorem abort_dominant (u : LineUnit) : u.abort.dominant = u.dominant := by
  unfold LineUnit.abort; split <;> rfl

theorem moves_driveNothing : Moves s s.driveNothing := moves_setCommit (Nat.le_max_left _ _)

theorem moves_abortFrame : Moves s s.abortFrame :=
  ((moves_setLine (abort_rate _) ((abort_dominant _).le.trans (Nat.le_max_left _ _))).trans (moves_setSel _)).trans
    moves_driveNothing

/-- The part that DETACH and entry into FAULT share. -/
theorem moves_clearAll : Moves s ((s.abortFrame.voidIntents).dropTransfers.discardTable) :=
  ((moves_abortFrame.trans moves_voidIntents).trans moves_dropTransfers).trans moves_discardTable

theorem moves_enterFault (c : FaultCause) : Moves s (s.enterFault c) := by
  unfold State.enterFault
  refine Moves.thenStation (Moves.thenCtrl (Moves.thenCommit moves_clearAll ?_) ?_ ?_ ?_ ?_ ?_) _
  all_goals first | rfl | exact Nat.le_max_left _ _

theorem moves_detach : Moves s s.detach := by
  unfold State.detach
  refine Moves.thenCtrl (Moves.thenCommit moves_clearAll ?_) ?_ ?_ ?_ ?_ ?_
  all_goals first | rfl | exact Nat.zero_le _

theorem moves_fallOutOfStep : Moves s s.fallOutOfStep := by
  unfold State.fallOutOfStep
  refine Moves.thenStation (Moves.thenCtrl (Moves.thenCommit ?_ ?_) ?_ ?_ ?_ ?_ ?_) _
  · exact (((moves_voidIntents.trans moves_dropTransfers).trans moves_dropControl).trans moves_discardTable).trans
      moves_clearYield
  · exact Nat.zero_le _
  · rfl
  · rfl
  · rfl
  · rfl
  · exact Nat.le_trans (show 1 ≤ Config.attemptLimit by decide) (Nat.le_max_right _ _)

/-- The part that the station's own departures share. -/
theorem moves_leaveGroup : Moves s ((s.dropTransfers.dropControl.discardTable).clearYield) :=
  ((moves_dropTransfers.trans moves_dropControl).trans moves_discardTable).trans moves_clearYield

theorem moves_depart : Moves s s.depart := by
  unfold State.depart
  refine Moves.thenStation (Moves.thenCtrl moves_leaveGroup ?_ ?_ ?_ ?_ ?_) _
  all_goals first | rfl | exact Nat.zero_le _

theorem moves_evictedActive : Moves s s.evictedActive := by
  unfold State.evictedActive
  refine Moves.thenStation (Moves.thenCtrl moves_leaveGroup ?_ ?_ ?_ ?_ ?_) _
  · rfl
  · rfl
  · rfl
  · rfl
  · exact Nat.le_trans (show 1 ≤ Config.attemptLimit by decide) (Nat.le_max_right _ _)

/-- The part that a re-queue of JOIN and the giving up of a join share. -/
theorem moves_leaveJoin : Moves s s.dropControl.closeLog.discardTable :=
  (moves_dropControl.trans moves_closeLog).trans moves_discardTable

theorem moves_giveUpJoin : Moves s s.giveUpJoin := by
  unfold State.giveUpJoin
  refine Moves.thenStation (Moves.thenCtrl (moves_leaveJoin.trans moves_driveNothing) ?_ ?_ ?_ ?_ ?_) _
  all_goals first | rfl | exact Nat.le_max_left _ _

theorem withdraw_ctrl (s : State) (p : Offered → Bool) : (s.withdraw p).ctrl = s.ctrl := by
  unfold State.withdraw
  split
  · split
    · dsimp only
      split <;> rfl
    · rfl
  · rfl

theorem closeLog_ctrl (s : State) : s.closeLog.ctrl = s.ctrl := by
  unfold State.closeLog
  dsimp only
  split <;> rfl

theorem leaveJoin_attempts (s : State) : s.dropControl.closeLog.discardTable.ctrl.attempts = s.ctrl.attempts := by
  show (s.dropControl.closeLog).ctrl.attempts = _
  rw [closeLog_ctrl]
  show (s.withdraw _).ctrl.attempts = _
  rw [withdraw_ctrl]

theorem moves_requeueJoin : Moves s s.requeueJoin := by
  unfold State.requeueJoin
  split
  · exact moves_giveUpJoin
  · rename_i h
    refine moves_leaveJoin.trans (moves_setCtrl rfl rfl rfl rfl ?_)
    simp only [leaveJoin_attempts]
    omega

theorem moves_ownEviction : Moves s s.ownEviction := by
  unfold State.ownEviction
  split
  · split
    · exact moves_depart
    · exact moves_evictedActive
  · exact moves_requeueJoin
  · exact moves_requeueJoin
  · exact moves_requeueJoin
  all_goals exact Moves.refl s

theorem moves_becomeActive : Moves s s.becomeActive := by
  unfold State.becomeActive
  refine Moves.thenStation (moves_setCtrl ?_ ?_ ?_ ?_ ?_) _
  all_goals first | rfl | exact Nat.zero_le _

theorem moves_raiseMembersChanged : Moves s s.raiseMembersChanged := moves_raiseStation _

theorem moves_abandonFounding : Moves s s.abandonFounding :=
  (moves_withdraw _).trans (moves_setCtrl rfl rfl rfl rfl (Nat.le_max_left _ _))

theorem moves_setSilence (x : StationId) (t : Timer) : Moves s (s.setSilence x t) :=
  moves_setCtrl rfl rfl rfl rfl (Nat.le_max_left _ _)

theorem moves_withdrawEvict (x : StationId) : Moves s (s.withdrawEvict x) := by
  unfold State.withdrawEvict
  split
  · exact Moves.refl s
  · exact (moves_withdraw _).trans (moves_setCtrl rfl rfl rfl rfl (Nat.le_max_left _ _))

theorem moves_heard (x : StationId) (k : Kind) : Moves s (s.heard x k) := by
  unfold State.heard
  split
  · unfold State.heardActive
    dsimp only
    split
    · exact (moves_withdrawEvict _).trans (moves_setSilence _ _)
    · exact moves_withdrawEvict _
  · split
    · exact moves_setCtrl rfl rfl rfl rfl (Nat.le_max_left _ _)
    · exact Moves.refl s
  · split
    · exact moves_abandonFounding
    · exact Moves.refl s
  all_goals exact Moves.refl s

theorem moves_memberNotice (n : MemberNotice) : Moves s (s.memberNotice n) := by
  have peer : Moves s (s.peerNotice n) := by
    unfold State.peerNotice
    split
    · exact (moves_withdrawEvict _).trans (moves_setSilence _ _)
    · split
      · exact (moves_withdrawEvict _).trans (moves_setSilence _ _)
      · split
        · exact moves_setSilence _ _
        · exact Moves.refl s
  have own : Moves s (s.ownNotice n) := by
    unfold State.ownNotice
    split
    · exact moves_depart
    · exact moves_ownEviction
    · exact Moves.refl s
  unfold State.memberNotice
  split
  · have after (t : State) (h : Moves s t) :
        Moves s (if n.changed && t.ctrl.station == .active then t.raiseMembersChanged else t) := by
      split
      · exact h.trans moves_raiseMembersChanged
      · exact h
    refine after _ ?_
    split
    · exact own
    · exact peer
  · split
    · split
      · split
        · exact moves_becomeActive.trans moves_raiseMembersChanged
        · exact Moves.refl s
      · exact moves_ownEviction
      · exact Moves.refl s
    · exact Moves.refl s
  all_goals exact Moves.refl s

theorem moves_ownGenesis : Moves s s.ownGenesis := by
  unfold State.ownGenesis
  refine Moves.trans (Moves.trans (Moves.thenCommit (moves_setTable _) ?_) moves_becomeActive) moves_raiseMembersChanged
  exact Nat.le_max_left _ _

theorem moves_rejoinNewGroup : Moves s s.rejoinNewGroup := by
  refine moves_closeLog.trans (moves_setCtrl rfl rfl rfl rfl ?_)
  exact Nat.le_max_left _ _

theorem moves_otherGenesis : Moves s s.otherGenesis := by
  unfold State.otherGenesis
  split
  · split
    · exact Moves.refl s
    · exact moves_rejoinNewGroup
  · exact moves_abandonFounding
  · exact moves_rejoinNewGroup
  all_goals exact Moves.refl s

theorem moves_controlOfferEnd (f : Offered) (r : OfferEnd) : Moves s (s.controlOfferEnd f r) := by
  have kept : Moves s s.readyKept := by
    unfold State.readyKept
    split
    · exact moves_requeueJoin
    · exact Moves.refl s
  unfold State.controlOfferEnd
  split
  · unfold State.joinPassed
    refine Moves.thenTransfer (moves_setCtrl ?_ ?_ ?_ ?_ ?_) ?_ ?_
    all_goals first | rfl | exact Nat.zero_le _ | exact Nat.le_max_left _ _
  · exact moves_setCtrl rfl rfl rfl rfl (Nat.le_max_left _ _)
  · exact moves_setCtrl rfl rfl rfl rfl (Nat.le_max_left _ _)
  · exact kept
  · exact kept
  · exact moves_setCtrl rfl rfl rfl rfl (Nat.le_max_left _ _)
  · exact moves_setCtrl rfl rfl rfl rfl (Nat.le_max_left _ _)
  · exact moves_setCtrl rfl rfl rfl rfl (Nat.le_max_left _ _)
  · exact Moves.refl s

theorem moves_passedAtController : Moves s s.passedAtController := by
  unfold State.passedAtController
  split
  · have h : Moves s (s.setCtrl { s.ctrl with presence := .running }) :=
      moves_setCtrl rfl rfl rfl rfl (Nat.le_max_left _ _)
    dsimp only
    split
    · exact h
    · exact (h.trans (moves_withdraw _)).trans (moves_setCtrl rfl rfl rfl rfl (Nat.le_max_left _ _))
  · exact Moves.refl s

theorem moves_presenceExpired : Moves s s.presenceExpired := moves_setCtrl rfl rfl rfl rfl (Nat.le_max_left _ _)

theorem moves_silenceExpired (x : StationId) : Moves s (s.silenceExpired x) :=
  (moves_setSilence _ _).trans (moves_setCtrl rfl rfl rfl rfl (Nat.le_max_left _ _))

theorem moves_firstContactExpired : Moves s s.firstContactExpired := by
  unfold State.firstContactExpired
  split
  · exact moves_setCtrl rfl rfl rfl rfl (Nat.le_max_left _ _)
  · exact moves_closeLog.trans (moves_setCtrl rfl rfl rfl rfl (Nat.le_max_left _ _))

theorem moves_joinDeadlineExpired : Moves s s.joinDeadlineExpired := by
  unfold State.joinDeadlineExpired
  split
  · exact moves_setCtrl rfl rfl rfl rfl (Nat.le_max_left _ _)
  · exact moves_requeueJoin

/-! ### Application and transfers -/

theorem moves_applyCommit (x : StationId) (c : Change) : Moves s (s.applyCommit x c) := by
  unfold State.applyCommit
  have h := (moves_setTable (s := s) (applyChange s.ctrl.id s.epochAfter x c s.table).table).trans
    (moves_takeNotices (applyChange s.ctrl.id s.epochAfter x c s.table).notices)
  dsimp only
  split
  · exact (h.trans (moves_memberNotice _)).trans (moves_setCommit (Nat.le_max_left _ _))
  · exact h.trans (moves_setCommit (Nat.le_max_left _ _))

theorem moves_sameLog {x : TransferUnit} (l : x.log = s.transfer.log) (d : x.discards = s.transfer.discards) :
    Moves s (s.setTransfer x) :=
  moves_setTransfer (by rw [l]; exact Nat.le_max_left _ _) (by rw [d]; exact Nat.le_max_left _ _)

theorem moves_evaluateDonor : Moves s s.evaluateDonor := by
  have prune : Moves s s.pruneServed := moves_sameLog rfl rfl
  have test (s : State) : Moves s s.testTransfer := by
    unfold State.testTransfer
    split
    · split
      · exact (moves_withdraw _).trans (moves_sameLog rfl rfl)
      · exact Moves.refl s
    · exact Moves.refl s
  have start (s : State) : Moves s s.startTransfer := by
    unfold State.startTransfer
    split
    · split
      · exact moves_sameLog rfl rfl
      · exact Moves.refl s
    · exact Moves.refl s
  exact (prune.trans (test _)).trans (start _)

theorem moves_segmentAccepted : Moves s s.segmentAccepted := by
  unfold State.segmentAccepted
  split
  · split
    · exact moves_sameLog rfl rfl
    · refine Moves.trans (moves_setTransfer ?_ ?_) moves_evaluateDonor
      · exact Nat.le_max_left _ _
      · exact Nat.le_max_left _ _
  · exact Moves.refl s

theorem moves_logCommit (r : LogRecord) : Moves s (s.logCommit r) := by
  unfold State.logCommit
  split
  · exact Moves.refl s
  · split
    · exact moves_ownEviction
    · split
      · exact moves_requeueJoin
      · rename_i h
        have g : Moves s (s.setTransfer { s.transfer with log := s.transfer.log ++ [r] }) := by
          refine moves_setTransfer ?_ (Nat.le_max_left _ _)
          simp only [List.length_append, List.length_singleton]
          omega
        unfold State.appendRecord
        dsimp only
        split
        · split
          · exact g.trans ((moves_setTable _).trans (moves_sameLog rfl rfl))
          · exact g
        · exact g

theorem moves_logGap : Moves s s.logGap := by
  unfold State.logGap
  split
  · exact Moves.refl s
  · exact moves_requeueJoin

theorem moves_refuseSegment : Moves s (s.setTable .discarded).requeueJoin := (moves_setTable _).trans moves_requeueJoin

theorem receptionStarted_keeps (c : Controller) :
    c.receptionStarted.id = c.id ∧ c.receptionStarted.p = c.p ∧ c.receptionStarted.k = c.k ∧
      c.receptionStarted.jmul = c.jmul ∧ c.receptionStarted.attempts = c.attempts := by
  unfold Controller.receptionStarted
  split <;> simp

theorem moves_loadSegment0 (x : StationId) (e j : Word16) (ms : Vector MemberEntry 16) :
    Moves s (s.loadSegment0 x e j ms) := by
  unfold State.loadSegment0
  dsimp only
  split
  · obtain ⟨a, b, c, d, f⟩ := receptionStarted_keeps s.ctrl
    refine ((moves_setTable (loadMembers ms)).trans (moves_setTransfer ?_ ?_)).trans
      (moves_setCtrl a b c d (f.le.trans (Nat.le_max_left _ _)))
    · simp only [List.length_drop, State.setTable_transfer]
      omega
    · have := (e - j).isLt
      simp only [State.setTable_transfer]
      omega
  · exact moves_refuseSegment

theorem moves_completeReception (e : Word16) : Moves s (s.completeReception e) := by
  unfold State.completeReception
  have h : Moves s ((s.setTable { s.table with validity := .complete }).setCommit { s.commit with epoch := some e }) :=
    (moves_setTable _).trans (moves_setCommit (Nat.le_max_left _ _))
  have g := h.trans (moves_foldl _ (fun s r => moves_applyCommit (s := s) (LogRecord.sender r) r.change)
    s.transfer.log _)
  exact (g.trans (moves_setTransfer (Nat.zero_le _) (Nat.zero_le _))).trans
    (moves_setCtrl rfl rfl rfl rfl (Nat.le_max_left _ _))

theorem moves_takeSegment (x : StationId) (e j : Word16) (g : Segment) : Moves s (s.takeSegment x e j g) := by
  have load (cur : Transfer) (pair : Fin 32) (a b : LockEntry) : Moves s (s.loadLocks cur pair a b) := by
    unfold State.loadLocks
    split
    · dsimp only
      split
      · exact (moves_setTable _).trans (moves_sameLog rfl rfl)
      · exact (moves_setTable _).trans (moves_completeReception _)
    · exact moves_refuseSegment
  have lock (pair : Fin 32) (a b : LockEntry) : Moves s (s.lockSegment x e j pair a b) := by
    unfold State.lockSegment
    split
    · split
      · exact load _ _ _ _
      · exact Moves.refl s
    · exact Moves.refl s
  unfold State.takeSegment
  split
  · exact Moves.refl s
  · exact moves_loadSegment0 _ _ _ _
  · exact Moves.refl s
  · exact moves_loadSegment0 _ _ _ _
  · exact lock _ _ _

/-! ### The Transmit Selector -/

theorem moves_driveSof : Moves s s.driveSof := by
  unfold State.driveSof
  split
  · exact Moves.refl s
  · dsimp only
    have h (s : State) (f : Frame) : Moves s
        (s.setLine
          { s.line with
            tx := .contending, aborted := false, fixed := some f, bitFault := false, rx := .body,
            reception := .following, assembly := .empty, dominant := 0 }) := moves_setLine rfl (Nat.zero_le _)
    split
    · exact Moves.trans (Moves.trans (Moves.trans (h s _) (moves_setSel _)) (moves_setSel _)) (moves_recordOffer _ _)
    · exact Moves.trans (Moves.trans (h s _) (moves_setSel _)) (moves_setSel _)

theorem moves_placeFrame (f : Offered) : Moves s (s.placeFrame f) := by
  unfold State.placeFrame
  dsimp only
  split
  · exact (moves_setSel _).trans (moves_recordOffer _ _)
  · exact moves_setSel _

theorem moves_choice : Moves s s.choice := by
  unfold State.choice
  split
  · exact (moves_placeFrame _).trans moves_driveSof
  · split
    · exact moves_setSel _
    · exact Moves.refl s

theorem moves_choose : Moves s s.choose := by
  unfold State.choose
  split
  · exact moves_choice
  · exact Moves.refl s

theorem moves_offerAtIdle : Moves s s.offerAtIdle := by
  unfold State.offerAtIdle
  split
  · exact moves_driveSof
  · exact moves_choice

theorem moves_endOffer (r : OfferEnd) : Moves s (s.endOffer r) := by
  have report (s : State) (f : Offered) (r : OfferEnd) : Moves s (s.reportEnd f r) := by
    unfold State.reportEnd
    split
    · exact moves_controlOfferEnd f r
    · exact Moves.refl s
    · exact moves_intentOfferEnd f r
  have passed (f : Offered) : Moves s (s.endPassed f) := by
    unfold State.endPassed
    dsimp only
    split
    · exact (((moves_setSel _).trans (moves_setSel _)).trans (report _ _ _)).trans moves_passedAtController
    · exact ((moves_setSel _).trans (report _ _ _)).trans moves_passedAtController
  unfold State.endOffer
  split
  · exact Moves.refl s
  · split
    · exact (moves_setSel _).trans (report _ _ _)
    · exact (moves_setSel _).trans (report _ _ _)
    · exact passed _
    · exact (moves_setSel _).trans (report _ _ _)

/-! ### One delivery -/

theorem moves_stepPassed (d : Delivery) (f : Frame) : Moves s (s.stepPassed d f) := by
  have commit (x : StationId) (c : Change) : Moves s (s.commitChange x c) := by
    unfold State.commitChange
    split
    · exact moves_applyCommit _ _
    · exact moves_logCommit _
  unfold State.stepPassed
  split
  · unfold State.commitGenesis
    split
    · exact moves_ownGenesis
    · exact moves_otherGenesis
  · unfold State.acceptSegment
    split
    · exact moves_segmentAccepted
    · split
      · exact moves_takeSegment _ _ _ _
      · exact Moves.refl s
  · exact Moves.refl s
  all_goals exact commit _ _

theorem moves_stepReport (d : Delivery) (r : OfferEnd) : Moves s (s.stepReport d r) := by
  unfold State.stepReport
  split
  · exact (moves_setCommit (Nat.zero_le _)).trans (moves_endOffer _)
  · unfold State.reportRetry
    split
    · exact (moves_setCommit (Nat.le_max_right _ _)).trans (moves_endOffer _)
    · rename_i h
      refine Moves.trans (moves_setCommit ?_) (moves_endOffer _)
      simp only [State.reachesLimit, decide_eq_true_eq, not_le] at h
      show s.commit.failures + 1 ≤ _
      omega
  · unfold State.reportDropped
    dsimp only
    split
    · exact (moves_endOffer _).trans moves_abandonFounding
    · exact moves_endOffer _
  · exact Moves.refl s

theorem moves_deliver (d : Delivery) : Moves s (s.deliver d) := by
  have hear : Moves s (s.stepHeard d) := by
    unfold State.stepHeard
    split
    · split
      · exact Moves.refl s
      · exact moves_heard _ _
    · exact Moves.refl s
  have apply (s : State) : Moves s (s.stepApply d) := by
    unfold State.stepApply
    split
    · exact moves_stepPassed _ _
    · split
      · exact Moves.refl s
      · exact moves_logGap
    · exact Moves.refl s
  have evaluate (s : State) (b : Bool) : Moves s (s.stepEvaluate b) := by
    unfold State.stepEvaluate
    split
    · exact moves_evaluateDonor
    · exact Moves.refl s
  have leave (s : State) (a b : Bool) : Moves s (s.stepLeave a b) := by
    unfold State.stepLeave
    split
    · exact moves_fallOutOfStep
    · split
      · exact moves_enterFault _
      · exact Moves.refl s
  unfold State.deliver
  have h := (hear.trans (apply _)).trans (evaluate _ (s.commitsAt d))
  dsimp only
  split
  · exact (h.trans (moves_stepReport _ _)).trans (leave _ _ _)
  · exact h.trans (leave _ _ _)

/-! ### The Line Unit -/

theorem moves_sameRate {x : LineUnit} (r : x.rate = s.line.rate) (d : x.dominant = s.line.dominant) :
    Moves s (s.setLine x) := moves_setLine r (d.le.trans (Nat.le_max_left _ _))

theorem moves_lineIdle : Moves s s.lineIdle := by
  unfold State.lineIdle
  split
  · exact Moves.refl s
  · refine Moves.trans (moves_setLine ?_ ?_) moves_offerAtIdle
    · rfl
    · exact Nat.zero_le _

theorem moves_busStart : Moves s s.busStart := by
  unfold State.busStart
  split
  · split
    · exact moves_driveSof
    · refine Moves.trans (moves_setLine ?_ ?_) (moves_setSel _)
      · rfl
      · exact Nat.zero_le _
  · exact Moves.refl s

theorem moves_arbitrationLost : Moves s s.arbitrationLost := by
  unfold State.arbitrationLost
  split
  · refine Moves.trans (moves_sameRate ?_ ?_) (moves_endOffer _) <;> rfl
  · exact Moves.refl s

theorem moves_bitFaultDetected (c : FaultCell) : Moves s (s.bitFaultDetected c) := by
  unfold State.bitFaultDetected
  split
  · exact moves_sameRate rfl rfl
  · exact moves_sameRate rfl rfl
  · exact moves_sameRate rfl rfl
  · exact Moves.refl s

theorem moves_crcHandoff (raw : RawFrame) : Moves s (s.crcHandoff raw) := by
  unfold State.crcHandoff
  split
  · split
    · unfold State.handOffOwn
      refine Moves.thenCommit (moves_sameRate ?_ ?_) ?_
      all_goals first | rfl | exact Nat.le_max_left _ _
    · split
      · unfold State.handOffReceived
        refine Moves.thenCommit (moves_sameRate ?_ ?_) ?_
        all_goals first | rfl | exact Nat.le_max_left _ _
      · exact Moves.refl s
  · exact Moves.refl s

theorem moves_errorFlag (c : FlagCause) : Moves s (s.errorFlag c) := by
  unfold State.errorFlag
  split
  · split
    · exact moves_sameRate rfl rfl
    · split
      · unfold State.flagFrame
        split
        · exact moves_sameRate rfl rfl
        · exact moves_sameRate rfl rfl
      · exact Moves.refl s
  · exact Moves.refl s

theorem verdictFault_keeps (u : LineUnit) (m : LineFault) :
    (u.verdictFault m).rate = u.rate ∧ (u.verdictFault m).dominant = u.dominant := by
  unfold LineUnit.verdictFault LineUnit.pastEnd
  split <;> exact ⟨rfl, rfl⟩

theorem faultByPhase_keeps (u : LineUnit) (m : LineFault) :
    (u.faultByPhase m).rate = u.rate ∧ (u.faultByPhase m).dominant = u.dominant := by
  unfold LineUnit.faultByPhase
  split
  · split <;> exact ⟨rfl, rfl⟩
  · exact verdictFault_keeps u m
  all_goals exact ⟨rfl, rfl⟩

/-- A line fault leaves the bit rate, and of the dominant count only what the level seen leaves of it (R6). -/
theorem lineFault_keeps (u : LineUnit) (m : LineFault) :
    (u.lineFault m).rate = u.rate ∧ (u.lineFault m).dominant = if showsRecessive m then 0 else u.dominant := by
  unfold LineUnit.lineFault
  rw [(faultByPhase_keeps _ m).1, (faultByPhase_keeps _ m).2]
  unfold LineUnit.seeLevel
  cases showsRecessive m <;> exact ⟨rfl, rfl⟩

theorem moves_lineFault (m : LineFault) : Moves s (s.setLine (s.line.lineFault m)) := by
  refine moves_setLine (lineFault_keeps _ m).1 ?_
  rw [(lineFault_keeps _ m).2]
  split
  · exact Nat.zero_le _
  · exact Nat.le_max_left _ _

theorem moves_lineStuck : Moves s s.lineStuck := by
  unfold State.lineStuck
  split
  · exact Moves.refl s
  · have h : Moves s (s.setLine s.line.stuck) := moves_setLine rfl (Nat.le_max_right _ _)
    dsimp only
    split
    · exact h
    · exact h.trans (moves_enterFault _)

theorem moves_frameDelivery (x : Slots) : Moves s (s.frameDelivery x) := by
  have take : Moves s (s.takeDelivery x) := by
    unfold State.takeDelivery
    refine Moves.thenCommit (moves_setLine ?_ ?_) ?_
    all_goals first | rfl | exact Nat.zero_le _ | exact Nat.le_max_left _ _
  unfold State.frameDelivery
  split
  · exact take
  · split
    · split
      · exact take
      · exact take.trans (moves_deliver _)
    · exact Moves.refl s

theorem moves_heldIdle : Moves s s.heldIdle := by
  unfold State.heldIdle
  split
  · exact moves_setLine rfl (Nat.zero_le _)
  · exact Moves.refl s

/-- A row of an idle, in reset and out of it (R178). -/
theorem moves_atIdle (f : State → State) (h : Moves s (f s)) : Moves s (s.atIdle f) := by
  unfold State.atIdle
  split
  · exact moves_heldIdle
  · exact h

theorem moves_timePasses : Moves s s.timePasses := by
  unfold State.timePasses State.unlessReset
  split
  · exact Moves.refl s
  · exact moves_setLine rfl (Nat.le_max_left _ _)

/-! ### Timers -/

theorem moves_expire (x : Timer) (f : State → State) (h : Moves s (f s)) : Moves s (s.expire x f) := by
  unfold State.expire
  split
  · exact h.trans moves_choose
  · exact Moves.refl s

theorem moves_yieldWaitOver : Moves s s.yieldWaitOver := by
  unfold State.yieldWaitOver
  split
  · exact moves_clearYield
  · exact Moves.refl s

/-! ### Host commands at their owners -/

theorem moves_enterCommand : Moves s (s.enterCommand).2 := by
  unfold State.enterCommand
  split
  · exact Moves.refl s
  · have h (c : Controller) (i : c.id = s.ctrl.id) (p : c.p = s.ctrl.p) (k : c.k = s.ctrl.k) (j : c.jmul = s.ctrl.jmul)
        (a : c.attempts = 1) : Moves s (s.setCtrl c) :=
      moves_setCtrl i p k j (by rw [a]; exact Nat.le_trans (show 1 ≤ Config.attemptLimit by decide) (Nat.le_max_right _ _))
    dsimp only
    split
    · refine Moves.trans (h _ ?_ ?_ ?_ ?_ ?_) (moves_enterFault _) <;> rfl
    · refine Moves.trans (h _ ?_ ?_ ?_ ?_ ?_) moves_choose <;> rfl

theorem moves_leaveCommand : Moves s (s.leaveCommand).2 := by
  unfold State.leaveCommand
  split
  · exact Moves.refl s
  · split
    · exact Moves.refl s
    · split
      · exact Moves.refl s
      · rename_i h
        refine Moves.trans (moves_setCtrl ?_ ?_ ?_ ?_ ?_)
          (moves_enqueue _ (by show s.queueFull = false; simpa using h))
        all_goals first | rfl | exact Nat.le_max_left _ _

theorem moves_detachCommand : Moves s s.detachCommand := by
  unfold State.detachCommand
  split
  · exact Moves.refl s
  · exact moves_detach

theorem moves_thenChoose {r : StatusCode × State} (h : Moves s r.2) : Moves s (thenChoose r).2 := by
  unfold thenChoose
  split
  · exact h.trans moves_choose
  · exact h

end Sys2Proof.Machine
end

