-- ==== Sys2Proof/Tests/Slice0.lean ====
section
/-! SUPPORT. Tests against the spec's own examples and tables, and for every obligation that has hypotheses a state and
operands that meet them. -/

namespace Sys2Proof.Tests

open Machine

-- One theorem at a time: each of the kernel evaluations below takes a thread of its own otherwise.
set_option Elab.async false

/-! ### Small states -/

/-- The state after a command; a stop would leave the state as it is. -/
def pass (c : Instr) (s : State) : State :=
  match exec c s with
  | .next t => t
  | .fault _ => s
  | .refused _ => s

/-- The state after some commands. -/
def after (cs : List Instr) (s : State) : State := cs.foldl (fun s c => pass c s) s

/-- Station `x` ACTIVE beside its peers, in step at epoch `e`, on an idle line, with a free lock table. -/
def active (x : StationId) (peers : List StationId) (e : Word16) : State :=
  let s := State.initial x .k500 false false 0 []
  let timer (i : StationId) : Timer := if i ∈ peers then .running else .stopped
  { s with
    line := { s.line with rx := .quiet },
    commit := { s.commit with epoch := some e },
    table := { s.table with
      validity := .complete,
      members := Vector.ofFn (fun i => { status := if i = x ∨ i ∈ peers then .active else .absent, joinEpoch := 0 }) },
    ctrl := { s.ctrl with station := .active, presence := .running, silence := Vector.ofFn timer } }

/-- One lock entry put in place. -/
def lockAs (l : LockId) (e : LockEntry) (s : State) : State :=
  { s with table := { s.table with locks := s.table.locks.set l.val e } }

/-- An intent of a requested mode, in a given state. -/
def intentAs (l : LockId) (state : IntentState) (m : Mode) (token : Option Word16) (s : State) : State :=
  s.setIntent l { IntentRecord.idle with state, mode := some m, tryFlag := some false, waitLimit := some 0, token }

/-- A transaction has begun. -/
def selected (s : State) : State := after [.ncsFall] s

/-- The frame of another station has come up to its slots, on an idle line. -/
def meets (f : Frame) (s : State) : State := after [.busStart, .crcHandoff (rawOf f)] s

/-- The frame of another station in its slots, as assembled; the CRC is taken as matching and not computed. -/
def assembled (f : Frame) (s : State) : State :=
  let raw : List Byte := f.content.payload
  { s with line := { s.line with rx := .verdict, assembly :=
    { code := some (codeOf f.content.kind), sender := some f.sender, length := some (BitVec.ofNat 8 raw.length),
      payload := raw, crc := 0, formatFault := false, errorFlag := false, slots := none } } }

/-- The slots as this station drives them, with those that others drive. -/
def sampled (s : State) (agree dissent reject : Bool) : Slots :=
  { reject := s.commit.drive.reject || reject, agree := s.commit.drive.agree || agree,
    dissent := s.commit.drive.dissent || dissent }

/-- Another station's frame committed here: nobody objects. -/
def commits (f : Frame) (s : State) : State :=
  let t := meets f s
  pass (.frameDelivery (sampled t true false false)) t

/-- The own frame, on the wire since its SOF, up to its slots. -/
def inSlots (s : State) : State := pass (.crcHandoff (rawOf { sender := s.ctrl.id, content := .join })) s

/-- Station 9 in SEEKING with its JOIN committed at epoch 641, its log LISTENING (11.4). -/
def joiner : State :=
  let s := active 9 [] 0
  { s with
    commit := { s.commit with epoch := none },
    table := .discarded,
    ctrl := { s.ctrl with station := .seeking, attempts := 1, presence := .stopped, joinDeadline := .running,
                          firstContact := .running, contact := true, silence := Vector.replicate 16 .stopped },
    transfer := { s.transfer with phase := .listening } }

/-- The membership records of 11.4 at epoch 641: 2, 5 and 14 ACTIVE, 9 JOINING. -/
def records641 : Vector MemberEntry 16 :=
  Vector.ofFn (fun i =>
    if i = 2 ∨ i = 5 ∨ i = 14 then { status := .active, joinEpoch := 0 }
    else if i = 9 then { status := .joining, joinEpoch := 641 } else .absent)

/-- The donor's segment 0 of 11.4. -/
def segment0 : Frame := { sender := 2, content := .snapshot 9 641 641 (.members records641) }

/-! ### WellFormed -/

/-- STATUS has a known code (R171). -/
theorem test_wf_refuses_known_code : Instr.wf (.badCommand 0x01) = false := by decide +kernel

theorem test_wf_takes_unknown_code : Instr.wf (.badCommand 0x06) = true := by decide +kernel

/-- A frame of an unlisted kind, and an ACQUIRE of LENGTH 3, have no last CRC cell to hand off (R16). -/
theorem test_wf_refuses_unplaceable_frames :
    Instr.wf (.crcHandoff { code := 0x3F, sender := 1, length := 0, payload := [], crc := 0 }) = false ∧
      Instr.wf (.crcHandoff { code := 0x21, sender := 1, length := 3, payload := [0, 0, 0], crc := 0 }) = false := by
  decide +kernel

/-- A listed kind with its own LENGTH is no fault to flag (R16). -/
theorem test_wf_refuses_faultless_flag :
    Instr.wf (.errorFlag (.unknownKind 0x21)) = false ∧ Instr.wf (.errorFlag (.lengthFault 0x21 1 4)) = false := by
  decide +kernel

theorem test_wf_takes_the_faults_of_R16 :
    Instr.wf (.errorFlag (.unknownKind 0x3F)) = true ∧ Instr.wf (.errorFlag (.lengthFault 0x21 1 5)) = true := by
  decide +kernel

/-! ### Formats and tables -/

/-- Lock 12 of Table 3-4, and the grants of its cascade. -/
def lock12 : LockEntry :=
  { mode := .exclusive, holders := single 4,
    waiters := [{ station := 2, mode := .shared }, { station := 7, mode := .shared },
                { station := 9, mode := .exclusive }, { station := 5, mode := .shared }],
    grants := 4710 }

/-- Table 3-5. -/
theorem test_release_cascade :
    (releaseEntry lock12 4).entry =
        { mode := .shared, holders := addTo (single 2) 7,
          waiters := [{ station := 9, mode := .exclusive }, { station := 5, mode := .shared }], grants := 4712 } ∧
      (releaseEntry lock12 4).grants =
        [{ station := 2, mode := .shared, token := 4711 }, { station := 7, mode := .shared, token := 4712 }] := by
  decide +kernel

/-- Locks 3 and 40 of Table 3-6 become those of Table 3-7. -/
theorem test_purge_of_station_6 :
    (purgeEntry 6
      { mode := .exclusive, holders := single 6,
        waiters := [{ station := 1, mode := .shared }, { station := 0, mode := .shared }], grants := 20 }).1 =
        { mode := .shared, holders := 0x0003, waiters := [], grants := 22 } ∧
      (purgeEntry 6
        { mode := .shared, holders := single 2,
          waiters := [{ station := 6, mode := .exclusive }, { station := 1, mode := .shared },
                      { station := 3, mode := .shared }], grants := 99 }).1 =
        { mode := .shared, holders := 0x000E, waiters := [], grants := 101 } := by
  decide +kernel

/-- The bytes of lock 12 of Table 3-5 in a segment (12.2). -/
theorem test_lock_entry_bytes :
    entryBytes (releaseEntry lock12 4).entry = [0x01, 0x00, 0x84, 0x12, 0x68, 0x02, 0x19, 0x05] := by
  decide +kernel

/-- The arbitration fields of Table 1-3. -/
theorem test_arbitration_fields :
    bitsOf (arbitrationField (rawOf { sender := 1, content := .presence 0 })) =
        [true, true, false, false, false, true, false, false, false, true] ∧
      bitsOf (arbitrationField (rawOf { sender := 5, content := .acquire 0 0 .shared false })) =
        [true, false, false, false, false, true, false, true, false, true] := by
  decide +kernel

/-! ### Pins and port -/

/-- RATE1 high and RATE0 low: 500 kbit/s (Table 1-1). -/
theorem test_release_samples_the_straps :
    let t := pass (.nresetRelease { id := 9, rate1 := true, rate0 := false }) State.reset
    t.ctrl.id = 9 ∧ t.line.rate = .k500 := by
  decide +kernel

theorem test_powerUp_with_nreset_low_is_held :
    let t := pass (.powerUp { id := 3, rate1 := false, rate0 := true } true) State.reset
    t.inReset = true ∧ t.line.rate = .k250 := by
  decide +kernel

/-- No event and no epoch survive nRESET (Table 10-4). -/
theorem test_nresetAssert_clears_the_station :
    let t := pass .nresetAssert (active 1 [2] 7)
    t.ctrl.station = .detached ∧ t.commit.epoch = none ∧ t.inReset = true := by
  decide +kernel

/-- An own frame in its slots at the assertion goes on as plain 1 cells, up to the idle after END (R13, R178). -/
theorem test_nresetAssert_in_the_slots :
    let t := pass .nresetAssert (inSlots (pass .presenceTimerExpiry (active 1 [2] 7)))
    t.closingCells = [.one, .one, .one, .one] ∧ (pass .lineIdle t).closingCells = [] := by
  decide +kernel

theorem test_ncs_edges :
    (selected State.reset).port.phase = .command ∧ (pass .ncsRise (selected State.reset)).port.phase = .deselected := by
  decide +kernel

/-- The ACQUIRE of R170's example, clocked: taken, and WRONG_STATE in DETACHED. -/
theorem test_bytes_of_the_example_of_R170 :
    (after [.byteComplete 0x14, .byteComplete 0x0C, .byteComplete 0x81, .byteComplete 0x5F]
      (selected State.reset)).port.response = [0x01] := by
  decide +kernel

theorem test_badCommand : (pass (.badCommand 0x13) (selected State.reset)).port.response = [0x0F] := by
  decide +kernel

/-- Status and eleven bytes; station 1 at 500 kbit/s, ACTIVE at epoch 7, two members (Table 12-10). -/
theorem test_status :
    (pass (.status 0xFF) (selected (active 1 [2] 7))).port.response =
      [0x00, 0x05, 0x12, 0x01, 0x00, 0x07, 0x02, 0x00, 0x00, 0x00, 0x00, 0x00] := by
  decide +kernel

/-- The lowest P and K and the lowest Jmul (R177). -/
theorem test_configure_takes_the_lowest :
    (pass (.configure 2 3 16 0xE9) (selected State.reset)).port.response = [0x00, 2, 3, 16] := by
  decide +kernel

theorem test_configure_refuses_K_16 :
    (pass (.configure 2 16 16 0xDC) (selected State.reset)).port.response = [0x02, 20, 5, 100] := by
  decide +kernel

/-- JOIN is offered at once on an idle line (R5, R84). -/
theorem test_enter_drives_JOIN :
    let t := pass (.enter 0xFD) (selected (pass .lineIdle State.reset))
    t.ctrl.station = .seeking ∧ t.line.fixed = some { sender := 0, content := .join } := by
  decide +kernel

theorem test_leave_offers_LEAVE :
    let t := pass (.leave 0xFC) (selected (active 1 [2] 7))
    t.ctrl.leavePending = true ∧ t.line.fixed = some { sender := 1, content := .leave 7 } := by
  decide +kernel

/-- A held lock is LOST (R154). -/
theorem test_detach_voids_the_intents :
    let t := pass (.detach 0xFB) (selected (intentAs 12 .held .shared (some 5) (active 1 [2] 7)))
    t.ctrl.station = .detached ∧ t.events.entries = [{ event := .lock 12 .lost, merged := 1 }] := by
  decide +kernel

/-- The start of Table 11-2: REQUESTING, no event, and the frame on the idle line. -/
theorem test_acquire_of_lock_12 :
    let t := pass (.acquireNoWaitLimit 0x0C 0x01 0xDF) (selected (active 1 [3, 6] 2200))
    (t.intent 12).state = .requesting ∧ t.events.entries = [] ∧
      t.line.fixed = some { sender := 1, content := .acquire 2200 12 .exclusive false } := by
  decide +kernel

/-- A wait limit of 500 ms starts the wait timer (R143). -/
theorem test_acquire_with_wait_limit :
    let t := pass (.acquireWithWaitLimit 0x37 0x00 500 0xBF) (selected (active 7 [0] 950))
    entryAt t.intents.timers 55 = .running ∧ (t.intent 55).waitLimit = some 500 := by
  decide +kernel

/-- RELEASE at station 1 of Table 11-2: RELEASING, token kept. -/
theorem test_release_keeps_the_token :
    let t := pass (.release 0x0C 0xDE) (selected (intentAs 12 .held .exclusive (some 4711) (active 1 [3, 6] 2203)))
    (t.intent 12).state = .releasing ∧ (t.intent 12).token = some 4711 := by
  decide +kernel

/-- Step 1 of 11.2, on an idle line: CANCELLING with cause HOST. -/
theorem test_cancel_of_a_waiting_intent :
    let t := pass (.cancel 0x28 0xC1) (selected (intentAs 40 .waiting .exclusive none (active 5 [2] 3100)))
    (t.intent 40).state = .cancelling ∧ (t.intent 40).cause = some .host ∧
      t.line.fixed = some { sender := 5, content := .cancel 3100 40 } := by
  decide +kernel

/-- Lock 12 of Table 3-5 at a station that holds nothing (Table 12-11). -/
theorem test_queryLock :
    (pass (.queryLock 0x0C 0xD4)
      (selected (lockAs 12 (releaseEntry lock12 4).entry (active 1 [2, 5, 7, 9] 500)))).port.response.take 13 =
      [0x00, 0x0C, 0x01, 0xF4, 0x01, 0x00, 0x84, 0x12, 0x68, 0x02, 0x19, 0x05, 0xFF] := by
  decide +kernel

/-- Epoch, donor, member count, and the first two records (Table 12-13). -/
theorem test_queryMembers :
    let r := (pass (.queryMembers 0xDF) (selected (active 1 [2] 7))).port.response
    r.length = 53 ∧ r.take 11 = [0x00, 0x00, 0x07, 0x01, 0x02, 0x00, 0x00, 0x00, 0x02, 0x00, 0x00] := by
  decide +kernel

/-- Station 6 of Table 11-3 after the RELEASE from 3: QUEUED, then GRANTED with the merged count 2. -/
def station6 : State :=
  let s := intentAs 12 .waiting .exclusive none (lockAs 12
    { mode := .exclusive, holders := single 3, waiters := [{ station := 6, mode := .exclusive }], grants := 4712 }
    (active 6 [1, 3] 2204))
  commits { sender := 3, content := .release 2204 12 } (s.raiseLock 12 (.queued .exclusive 2))

/-- The rows of Table 11-2 and Table 11-3 for that commit. -/
theorem test_release_from_3_commits_at_6 :
    station6.commit.epoch = some 2205 ∧ (station6.intent 12).token = some 4713 ∧
      station6.events.entries = [{ event := .lock 12 (.granted .exclusive 4713 false), merged := 2 }] := by
  decide +kernel

theorem test_readEvent_of_table_11_3 :
    (pass (.readEvent 0xD0) (selected station6)).port.response =
      [0x00, 0x0C, 0x01, 0x01, 0x12, 0x69, 0x00, 0x00, 0x02, 0x00, 0x00] := by
  decide +kernel

theorem test_readEventComplete_of_table_11_3 :
    let t := after [.readEvent 0xD0, .readEventComplete] (selected station6)
    t.events.entries = [] ∧ t.events.attn = false := by
  decide +kernel

/-! ### The line and the timers -/

/-- The losers of Table 1-3 keep their frames on offer; station 5 sends (R11, R134). -/
theorem test_arbitrationLost_keeps_the_offer :
    let s := after [.presenceTimerExpiry] (active 1 [2, 5] 7)
    let t := pass .arbitrationLost s
    s.line.tx = .contending ∧ t.line.tx = .idle ∧ t.sel.offered = some .presence ∧ t.sel.onWire = false := by
  decide +kernel

/-- In step, with an ACTIVE sender: AGREE (R20). -/
theorem test_crcHandoff_agrees :
    (meets { sender := 5, content := .acquire 2200 12 .exclusive false } (active 1 [5] 2200)).commit.drive =
      { reject := false, agree := true, dissent := false } := by
  decide +kernel

/-- A wrong CRC is rejected (R15, R19). -/
theorem test_crcHandoff_rejects_a_wrong_CRC :
    (after [.busStart, .crcHandoff { code := 0x31, sender := 5, length := 2, payload := [0x08, 0x98],
                                     crc := crcOf 0x31 5 2 [0x08, 0x98] ^^^ 1 }] (active 1 [5] 2200)).commit.drive.reject =
      true := by
  decide +kernel

theorem test_errorFlag_is_driven :
    (after [.busStart, .errorFlag (.unknownKind 0x3F)] (active 1 [5] 7)).drivesFlag = true := by decide +kernel

/-- Station 3 of Table 11-6, with lock 55 of Table 11-5. -/
def station3 : State :=
  intentAs 55 .waiting .shared none (lockAs 55
    { mode := .exclusive, holders := single 10,
      waiters := [{ station := 3, mode := .shared }, { station := 7, mode := .shared },
                  { station := 0, mode := .exclusive }], grants := 300 } (active 3 [0, 7, 10] 950))

/-- Station 3 of Table 11-7. -/
def station3After : State := commits { sender := 0, content := .evict 950 10 } station3

/-- Lock 55 of Table 11-7. -/
theorem test_eviction_purges_lock_55 : (entryAt station3After.table.locks 55).grants = 302 := by decide +kernel

/-- The events of Table 11-7 at station 3. -/
theorem test_eviction_raises_its_events :
    station3After.events.entries =
      [{ event := .lock 55 (.granted .shared 301 false), merged := 1 },
       { event := .station (.membersChanged 0x0089), merged := 1 }] := by
  decide +kernel

/-- Segment 0 of 11.4 is stored: LOADING with expected index 1. -/
theorem test_segment_0_of_11_4 :
    (pass (.frameDelivery { reject := false, agree := false, dissent := false }) (assembled segment0 joiner)).transfer.current =
      some { donor := 2, e := 641, j := 641, expected := 1 } := by
  decide +kernel

theorem test_lineIdle_delivers_to_quiet : (pass .lineIdle State.reset).line.rx = .quiet := by decide +kernel

/-- A bus start clears the yield flag (step 3 of 11.2). -/
theorem test_busStart_clears_the_yield_flag :
    let s := { active 5 [2] 3101 with sel := { Selector.initial with yieldFlag := true, yieldWait := .running } }
    let t := pass .busStart s
    t.sel.yieldFlag = false ∧ t.sel.yieldWait = .stopped ∧ t.line.rx = .body := by
  decide +kernel

/-- FAULT with cause LINE_STUCK, and its event (R34). -/
theorem test_lineStuck :
    let t := pass .lineStuck (active 1 [2] 7)
    t.ctrl.station = .fault ∧ t.events.entries = [{ event := .station (.fault .lineStuck), merged := 1 }] := by
  decide +kernel

/-- A recessive level ends the stuck stretch, and ENTER then finds a count of 0 (R6). -/
theorem test_recessive_level_clears_the_count :
    let s := after [.lineStuck, .missingEdge .recessive] State.reset
    s.line.dominant = 0 ∧ (pass (.enter 0xFD) (selected s)).ctrl.station = .seeking := by
  decide +kernel

theorem test_missingEdge_then_idle_is_truncated :
    let t := after [.busStart, .missingEdge .missingEdge, .lineIdle] (active 1 [2] 7)
    t.ctrl.station = .active ∧ t.line.rx = .quiet := by
  decide +kernel

theorem test_bitFault_drives_REJECT :
    (inSlots (after [.presenceTimerExpiry, .bitFaultDetected .body] (active 1 [2] 7))).commit.drive.reject = true := by
  decide +kernel

/-- An expired presence timer with an idle line: PRESENCE at once (R75, R126). -/
theorem test_presenceTimerExpiry :
    (pass .presenceTimerExpiry (active 1 [2] 7)).line.fixed = some { sender := 1, content := .presence 7 } := by
  decide +kernel

/-- Step 2 of 11.3, on an idle line. -/
theorem test_silenceTimerExpiry :
    let t := pass (.silenceTimerExpiry 10) (active 0 [3, 7, 10] 950)
    t.line.fixed = some { sender := 0, content := .evict 950 10 } ∧ entryAt t.ctrl.silence 10 = .stopped := by
  decide +kernel

/-- Nobody heard: GENESIS (R88). -/
theorem test_firstContactExpiry :
    let t := pass .firstContactExpiry { joiner with ctrl := { joiner.ctrl with contact := false } }
    t.ctrl.station = .founding ∧ t.line.fixed = some { sender := 9, content := .genesis } := by
  decide +kernel

/-- The fifth attempt is not made: JOIN_FAILED (R96, R97). -/
theorem test_joinDeadlineExpiry :
    let t := pass .joinDeadlineExpiry { joiner with ctrl := { joiner.ctrl with attempts := 4 } }
    t.ctrl.station = .detached ∧ t.events.entries = [{ event := .station .joinFailed, merged := 1 }] := by
  decide +kernel

/-- A WAITING intent that times out is CANCELLING with cause TIMEOUT (Table 8-4). -/
theorem test_waitTimerExpiry :
    let t := pass (.waitTimerExpiry 55) ((intentAs 55 .waiting .shared none (active 7 [0] 950)).setWaitTimer 55 .running)
    (t.intent 55).state = .cancelling ∧ (t.intent 55).cause = some .timeout := by
  decide +kernel

/-- The first of the other orders of 11.2: the yield wait expires, and the CANCEL is offered. -/
theorem test_yieldWaitExpiry :
    let s := intentAs 40 .waiting .exclusive none (active 5 [2] 3101)
    let r := { s.intent 40 with state := .cancelling, cause := some .host, outstanding := some .due }
    let t := pass .yieldWaitExpiry
      { s.setIntent 40 r with sel := { Selector.initial with yieldFlag := true, yieldWait := .running } }
    t.line.fixed = some { sender := 5, content := .cancel 3101 40 } := by
  decide +kernel

/-! ### States that meet the hypotheses of the obligations -/

/-- Station 1 ACTIVE beside 2 and 5 at epoch 7, on an idle line. -/
def base : State := active 1 [2, 5] 7

/-- Nothing dominant. -/
def noSlots : Slots := { reject := false, agree := false, dissent := false }

/-- A delivery that is not discarded: the hypotheses of `State.Delivers` as one test. -/
def delivering (s : State) : Bool :=
  !s.inReset && !s.line.aborted && s.line.undelivered && (s.line.rx != .body || s.line.reception != .abandoned) &&
    !s.ctrl.station.silent

theorem delivers_of (s : State) (slots : Slots) (h : delivering s = true) : s.Delivers slots (s.delivery slots) := by
  simp only [delivering, Bool.and_eq_true, Bool.or_eq_true, Bool.not_eq_true', bne_iff_ne] at h
  obtain ⟨⟨⟨⟨h1, h2⟩, h3⟩, h4⟩, h5⟩ := h
  exact ⟨h1, h2, h3, fun hb => h4.resolve_left (fun hn => hn hb), h5, rfl⟩

/-- A command that can complete its check byte, as one test. -/
def takesNow (s : State) (code : Byte) (params : List Byte) (check : Byte) : Bool :=
  !s.inReset && s.port.phase == .command && s.port.buffer.isPrefixOf (code :: params) &&
    ((code :: params).sum + check == 0)

theorem takes_of (s : State) (code : Byte) (params : List Byte) (check : Byte)
    (h : takesNow s code params check = true) : s.Takes code params check := by
  simp only [takesNow, Bool.and_eq_true, Bool.not_eq_true', beq_iff_eq, List.isPrefixOf_iff_prefix] at h
  obtain ⟨⟨⟨h1, h2⟩, h3⟩, h4⟩ := h
  exact ⟨⟨h1, h2, h3⟩, h4⟩

theorem premises_StepTakesTheFrontCommand :
    (State.reset.setPending [.lineIdle]).pending = [.lineIdle] ∧ State.reset.pending = [] := by
  decide +kernel

theorem premises_RowsChangeOnlyTheirOwn :
    Instr.isReset .lineIdle = false ∧ ∃ t, exec .lineIdle base = .next t := ⟨rfl, _, rfl⟩

/-- With an own frame in its slots and without one; and the part held, with that frame's last cells still to go. -/
theorem premises_AssertedResetHoldsThePart :
    let s := inSlots (pass .presenceTimerExpiry base)
    s.line.tx = .slots ∧ base.line.tx ≠ .slots ∧ Instr.isReset .lineIdle = false ∧
      (pass .nresetAssert s).inReset = true ∧ (pass .nresetAssert s).line.aborted = true ∧
      (pass .nresetAssert base).inReset = true ∧ (pass .nresetAssert base).line.aborted = false := by
  decide +kernel

theorem premises_NcsEdgesFrameTheTransaction :
    (base.inReset = false ∧ base.ncsLow = false) ∧ (selected base).inReset = false ∧ (selected base).ncsLow = true := by
  decide +kernel

/-- A STATUS transaction with its response shifted out up to `n` bytes. -/
def shiftedOut (n : Nat) : State :=
  after (.status 0xFF :: List.replicate (n + 1) (.byteComplete 0)) (selected base)

/-- One state for each phase; the response has twelve bytes, and eleven are out at the boundary. -/
theorem premises_ByteCompletesByPhase :
    base.inReset = false ∧ base.port.phase = .deselected ∧
      (pass (.status 0xFF) (selected base)).port.phase = .turnaround ∧
      ((shiftedOut 10).port.phase = .response ∧ (shiftedOut 10).port.shifted + 1 < (shiftedOut 10).port.response.length) ∧
      ((shiftedOut 11).port.phase = .response ∧
        (shiftedOut 11).port.response.length ≤ (shiftedOut 11).port.shifted + 1) ∧
      (shiftedOut 12).port.phase = .trailing := by
  decide +kernel

theorem premises_BytesMakeTheCommand :
    Instr.hostBytes (.release 0x3F 0xAB) = some (0x16, [0x3F], 0xAB) ∧ (selected base).inReset = false ∧
      (selected base).port.phase = .command ∧ (selected base).port.buffer = [] := by
  decide +kernel

/-- A check byte that is one off, and the unknown codes beside the known ones. -/
theorem premises_RejectedTransactionsTakeNothing :
    (Instr.hostBytes (.status 0xFE) = some (0x01, [], 0xFE) ∧ (selected base).Hears 0x01 [] ∧
      ([0x01] : List Byte).sum + 0xFE ≠ 0) ∧
    (selected base).Hears 0x06 [] ∧ (selected base).port.buffer = [] ∧
      ∀ code ∈ ([0x00, 0x06, 0x13, 0x18, 0x1F, 0x22, 0x2F, 0x31, 0xFF] : List Byte),
        code ∉ ([0x01, 0x02, 0x03, 0x04, 0x05, 0x14, 0x15, 0x16, 0x17, 0x20, 0x21, 0x30] : List Byte) := by
  refine ⟨⟨rfl, ⟨rfl, rfl, List.nil_prefix⟩, by decide +kernel⟩, ⟨rfl, rfl, List.nil_prefix⟩, rfl, by decide +kernel⟩

/-- A LEAVE in DETACHED. -/
theorem premises_RefusedCommandChangesNothing :
    Instr.hostBytes (.leave 0xFC) = some (0x04, [], 0xFC) ∧ (selected State.reset).Takes 0x04 [] 0xFC ∧
      ∃ t, exec (.leave 0xFC) (selected State.reset) = .next t :=
  ⟨rfl, takes_of _ _ _ _ (by decide +kernel), _, rfl⟩

theorem premises_StatusReportsTheStation : (selected base).Takes 0x01 [] 0xFF := takes_of _ _ _ _ (by decide +kernel)

/-- The bounds of the three ranges of R177, and the values beside them. -/
theorem premises_ConfigureSetsAllThreeOrNone :
    (selected State.reset).Takes 0x02 [2, 3, 16] 0xE9 ∧ (selected State.reset).Takes 0x02 [250, 15, 255] 0xF6 ∧
      (selected State.reset).Takes 0x02 [1, 16, 15] 0xDE ∧ (selected base).Takes 0x02 [2, 3, 16] 0xE9 :=
  ⟨takes_of _ _ _ _ (by decide +kernel), takes_of _ _ _ _ (by decide +kernel), takes_of _ _ _ _ (by decide +kernel),
    takes_of _ _ _ _ (by decide +kernel)⟩

/-- In DETACHED and out of it, and on a stuck line. -/
theorem premises_EnterStartsSeeking :
    (selected State.reset).Takes 0x03 [] 0xFD ∧ (selected (pass .lineStuck State.reset)).Takes 0x03 [] 0xFD ∧
      (selected base).Takes 0x03 [] 0xFD ∧ (pass .lineStuck State.reset).line.dominant = 32 :=
  ⟨takes_of _ _ _ _ (by decide +kernel), takes_of _ _ _ _ (by decide +kernel), takes_of _ _ _ _ (by decide +kernel),
    by decide +kernel⟩

theorem premises_LeaveQueuesItsFrame :
    (selected base).Takes 0x04 [] 0xFC ∧ (selected State.reset).Takes 0x04 [] 0xFC :=
  ⟨takes_of _ _ _ _ (by decide +kernel), takes_of _ _ _ _ (by decide +kernel)⟩

theorem premises_DetachGivesUpThePlace :
    ((selected State.reset).Takes 0x05 [] 0xFB ∧ (selected State.reset).ctrl.station = .detached) ∧
      (selected base).Takes 0x05 [] 0xFB ∧ (selected base).ctrl.station ≠ .detached :=
  ⟨⟨takes_of _ _ _ _ (by decide +kernel), by decide +kernel⟩, takes_of _ _ _ _ (by decide +kernel), by decide +kernel⟩

/-- The highest lock, the first number that is no lock, and both codes. -/
theorem premises_AcquireIsAnsweredInOrder :
    (selected base).Takes 0x14 [0x3F, 0x81] 0x2C ∧ (selected base).Takes 0x14 [0x40, 0x81] 0x2B ∧
      (selected base).Takes 0x15 [0x3F, 0x00, hiByte 500, loByte 500] 0xB7 :=
  ⟨takes_of _ _ _ _ (by decide +kernel), takes_of _ _ _ _ (by decide +kernel), takes_of _ _ _ _ (by decide +kernel)⟩

theorem premises_ReleaseIsAnsweredInOrder :
    (selected (intentAs 63 .held .shared (some 1) base)).Takes 0x16 [0x3F] 0xAB ∧ (selected base).Takes 0x16 [0x40] 0xAA :=
  ⟨takes_of _ _ _ _ (by decide +kernel), takes_of _ _ _ _ (by decide +kernel)⟩

theorem premises_CancelFollowsTable8_2 :
    (selected (intentAs 63 .waiting .shared none base)).Takes 0x17 [0x3F] 0xAA ∧
      (selected base).Takes 0x17 [0x40] 0xA9 :=
  ⟨takes_of _ _ _ _ (by decide +kernel), takes_of _ _ _ _ (by decide +kernel)⟩

/-- Lock 64; lock 63 without a table; lock 63 with one. -/
theorem premises_QueryLockShowsTheEntry :
    ((selected base).Takes 0x20 [0x40] 0xA0 ∧ 64 ≤ (0x40 : Byte).toNat) ∧
      ((selected State.reset).Takes 0x20 [0x3F] 0xA1 ∧ (0x3F : Byte).toNat < 64 ∧
        (selected State.reset).table.validity ≠ .complete) ∧
      (selected base).Takes 0x20 [0x3F] 0xA1 ∧ (selected base).table.validity = .complete ∧
        (selected base).commit.epoch = some 7 :=
  ⟨⟨takes_of _ _ _ _ (by decide +kernel), by decide⟩,
    ⟨takes_of _ _ _ _ (by decide +kernel), by decide, by decide +kernel⟩,
    takes_of _ _ _ _ (by decide +kernel), rfl, rfl⟩

theorem premises_QueryMembersShowsTheTable :
    ((selected State.reset).Takes 0x21 [] 0xDF ∧ (selected State.reset).table.validity ≠ .complete) ∧
      (selected base).Takes 0x21 [] 0xDF ∧ (selected base).table.validity = .complete ∧
        (selected base).commit.epoch = some 7 :=
  ⟨⟨takes_of _ _ _ _ (by decide +kernel), by decide +kernel⟩, takes_of _ _ _ _ (by decide +kernel), rfl, rfl⟩

/-- A station that has raised LOST for lock 12. -/
def withEvent : State := base.raiseLock 12 .lost

theorem premises_ReadEventCapturesTheHead :
    ((selected base).Takes 0x30 [] 0xD0 ∧ (selected base).events.entries = []) ∧
      (selected withEvent).Takes 0x30 [] 0xD0 ∧
        (selected withEvent).events.entries = { event := .lock 12 .lost, merged := 1 } :: [] :=
  ⟨⟨takes_of _ _ _ _ (by decide +kernel), rfl⟩, takes_of _ _ _ _ (by decide +kernel), by decide +kernel⟩

/-- The capture of that event, with its response not yet clocked and with its turnaround byte clocked. -/
theorem premises_CompletedReadRemovesTheHead :
    let s := pass (.readEvent 0xD0) (selected withEvent)
    s.inReset = false ∧ s.port.phase = .turnaround ∧ (pass (.byteComplete 0) s).port.phase = .response ∧
      s.events.reading = some { key := .lock 12, changed := false, merges := 0 } ∧
      s.events.entries = { event := .lock 12 .lost, merged := 1 } :: [] := by
  decide +kernel

/-- A key that has no entry, and one that has one between two others. -/
theorem premises_EventsMergeUnderTheirKey :
    (∀ r ∈ withEvent.events.entries, r.key ≠ (Event.lock 13 .lost).key) ∧
      let front : List EventRecord := [{ event := .station .joined, merged := 1 }]
      let r : EventRecord := { event := .lock 12 (.queued .shared 15), merged := 15 }
      let back : List EventRecord := [{ event := .lock 13 .lost, merged := 2 }]
      ({ entries := front ++ r :: back, attn := true, reading := none } : EventQueue).entries = front ++ r :: back ∧
        r.key = (Event.lock 12 .lost).key ∧ ∀ x ∈ front ++ back, x.key ≠ (Event.lock 12 .lost).key := by
  decide +kernel

/-- ACTIVE with a PRESENCE on offer while the line is not idle. -/
def offering : State := pass .presenceTimerExpiry { base with line := { base.line with rx := .settling } }

/-- The same with its frame placed and off the wire, in a phase of its own choosing. -/
def placed (rx : RxPhase) (f : Offered) : State :=
  { base with line := { base.line with rx }, sel := { base.sel with offered := some f } }

theorem premises_IdleLineStartsTheNextOffer :
    (State.reset.IdleComes ∧ State.reset.sel.offered = none) ∧ (placed .settling .presence).IdleComes ∧
      (placed .settling .presence).sel.offered = some .presence ∧ offering.IdleComes ∧ offering.sel.offered = none := by
  unfold State.IdleComes
  decide +kernel

theorem premises_BusStartReceivesOrJoins :
    base.inReset = false ∧ base.line.rx = .quiet ∧ base.sel.offered = none ∧
      (placed .quiet .presence).line.rx = .quiet ∧ (placed .quiet .presence).sel.offered = some .presence := by
  decide +kernel

theorem premises_ChoiceNeedsAnIdleLine :
    (State.reset.line.rx ≠ .quiet) ∧ (placed .quiet .presence).sel.offered ≠ none ∧
      (base.line.rx = .quiet ∧ base.sel.offered = none) ∧
      let s := { base with sel := { base.sel with yieldFlag := true, yieldWait := .running } }
      s.inReset = false ∧ s.sel.yieldWait = .running ∧ s.line.rx = .quiet ∧ s.sel.offered = none := by
  decide +kernel

/-- The own PRESENCE on the wire, and in its slots. -/
def sending : State := pass .presenceTimerExpiry base

theorem premises_LostArbitrationKeepsTheOffer :
    sending.inReset = false ∧ sending.line.tx = .contending ∧ sending.sel.offered = some .presence := by
  decide +kernel

/-- The frame of another station at its SOF. -/
def following : State := pass .busStart base

/-- A PRESENCE of station 5 at epoch 7. -/
def presence5 : Frame := { sender := 5, content := .presence 7 }

theorem premises_HandOffOfTheCrcDecidesTheDrive :
    (following.inReset = false ∧ following.line.followsBody = true ∧ following.line.inBody = false ∧
      (rawOf presence5).wf = true) ∧
    sending.inReset = false ∧ sending.line.followsBody = true ∧ sending.line.inBody = true := by
  decide +kernel

theorem premises_ActiveStationTestsEpochAndSender :
    (following.inReset = false ∧ following.line.followsBody = true ∧ following.line.inBody = false ∧
      (rawOf presence5).wf = true ∧ following.ctrl.station = .active ∧ following.commit.epoch = some 7 ∧
      formatFaultOf (rawOf presence5) following.ctrl.id = false ∧ contentOf (rawOf presence5) = some (.presence 7)) ∧
      ∃ t, exec (.crcHandoff (rawOf presence5)) following = .next t :=
  ⟨by decide +kernel, _, rfl⟩

/-- A DETACHED station that follows a frame. -/
def silentFollowing : State := after [.lineIdle, .busStart] State.reset

theorem premises_BitFaultsAndErrorFlags :
    sending.inReset = false ∧ sending.line.followsBody = true ∧ FlagCause.wf (.lengthFault 0x21 5 5) = true ∧
      sending.line.inBody = true ∧
      (following.line.followsBody = true ∧ following.line.inBody = false ∧ following.ctrl.station.silent = false) ∧
      silentFollowing.inReset = false ∧ silentFollowing.line.followsBody = true ∧ silentFollowing.line.inBody = false ∧
      silentFollowing.ctrl.station.silent = true := by
  decide +kernel

/-- A frame of station 5 in its slots. -/
def receiving : State := pass (.crcHandoff (rawOf presence5)) following

/-- A state for each clause by phase. -/
theorem premises_LineFaultsByPhase :
    base.inReset = false ∧ State.reset.line.rx = .settling ∧ base.line.rx = .quiet ∧
      (sending.line.rx = .body ∧ sending.line.inBody = true) ∧
      (following.line.rx = .body ∧ following.line.inBody = false ∧ following.line.assembly.errorFlag = false) ∧
      (receiving.line.rx = .verdict ∧ receiving.line.reception = .following) ∧
      let s := { receiving with line := { receiving.line with rx := .closing } }
      s.inReset = false ∧ s.line.rx = .closing ∧ s.line.reception = .following := by
  decide +kernel

theorem premises_StuckLineLeadsToFault :
    (pass .lineStuck State.reset).line.dominant = 32 ∧ (pass .lineStuck State.reset).inReset = false ∧
      (State.reset.line.dominant < 32 ∧ State.reset.ctrl.station.silent = true) ∧
      base.line.dominant < 32 ∧ base.ctrl.station.silent = false := by
  decide +kernel

/-- A flagged frame, a slot fault, and a frame without either, whose bits are a PRESENCE of station 5. -/
theorem premises_OutcomeFollowsTable2_2 :
    (pass (.errorFlag (.unknownKind 0x3F)) following).line.assembly.errorFlag = true ∧
      receiving.line.assembly.errorFlag = false ∧ receiving.commit.drive.agree = true ∧
      (pass (.missingEdge .closingEdge) receiving).line.reception = .slotFault ∧
      receiving.line.reception = .following ∧ receiving.line.ownOnLine = false ∧
      receiving.line.assembly.formatFault = false ∧ receiving.line.assembly.code = some (rawOf presence5).code ∧
      receiving.line.assembly.sender = some 5 ∧ receiving.line.assembly.payload = (rawOf presence5).payload ∧
      contentOf (rawOf presence5) = some (.presence 7) ∧ (inSlots sending).line.ownOnLine = true := by
  decide +kernel

/-- An own frame aborted in its slots, a truncated frame, and a frame at a DETACHED station. -/
theorem premises_DiscardedDeliveryChangesNothing :
    (pass (.detach 0xFB) (selected (inSlots sending))).line.aborted = true ∧
      (pass (.missingEdge .missingEdge) following).line.rx = .body ∧
      (pass (.missingEdge .missingEdge) following).line.reception = .abandoned ∧
      (pass (.crcHandoff (rawOf presence5)) silentFollowing).line.undelivered = true ∧
      (pass (.crcHandoff (rawOf presence5)) silentFollowing).ctrl.station.silent = true := by
  decide +kernel

/-- The receiver of station 5's PRESENCE in another station state, with a pending control frame or without. -/
def receivingAs (st : StationState) (control : Option Control) : State :=
  { receiving with ctrl := { receiving.ctrl with station := st, control } }

/-- A rejected frame; one dissented with AGREE recessive; one dissented that this station did not dissent from; and an
accepted PRESENCE, in each station state that hears it. -/
theorem premises_FailedFrameIsAppliedNowhere :
    let rejected : Slots := { reject := true, agree := true, dissent := false }
    let accepted : Slots := { reject := false, agree := true, dissent := false }
    (receiving.Delivers rejected (receiving.delivery rejected) ∧ (receiving.delivery rejected).own = false ∧
      (receiving.delivery rejected).verdict = .rejected ∧
      ((meets { presence5 with content := .presence 8 } base).delivery
        { reject := false, agree := false, dissent := true }).verdict = .dissented false ∧
      (receiving.delivery { reject := false, agree := true, dissent := true }).verdict = .dissented true ∧
      (receiving.delivery { reject := false, agree := true, dissent := true }).drove.dissent = false) ∧
    ∀ s ∈ [receivingAs .active none, receivingAs .seeking none, receivingAs .seeking (some .join),
        receivingAs .founding (some .genesis), receivingAs .receiving none, receivingAs .synced (some .ready)],
      s.Delivers accepted (s.delivery accepted) ∧ (s.delivery accepted).own = false ∧
      (s.delivery accepted).verdict = .passed ∧ (s.delivery accepted).frame = some presence5 := by
  refine ⟨⟨delivers_of _ _ (by decide +kernel), by decide +kernel⟩, fun s hs => ?_⟩
  fin_cases hs <;> exact ⟨delivers_of _ _ (by decide +kernel), by decide +kernel⟩

/-- The own JOIN of a SEEKING station in its slots. -/
def joinInSlots : State := inSlots (pass (.enter 0xFD) (selected (pass .lineIdle State.reset)))

/-- The failure count with a given value. -/
def failed (n : Nat) (s : State) : State := { s with commit := { s.commit with failures := n } }

/-- An own PRESENCE rejected at a count of 14 and of 15, and dissented with AGREE dominant; an own JOIN dissented, and
met with a slot fault. -/
theorem premises_FailedOwnFrameIsCounted :
    let reject : Slots := { reject := true, agree := false, dissent := false }
    let both : Slots := { reject := false, agree := true, dissent := true }
    (∀ n ∈ [14, 15], ∀ slots ∈ [reject, both],
      (failed n (inSlots sending)).Delivers slots ((failed n (inSlots sending)).delivery slots) ∧
      ((failed n (inSlots sending)).delivery slots).own = true ∧
      ((failed n (inSlots sending)).delivery slots).frame = some { sender := 1, content := .presence 7 } ∧
      (failed n (inSlots sending)).sel.offered = some .presence ∧ (failed n (inSlots sending)).commit.failures = n ∧
      ((failed n (inSlots sending)).delivery slots).verdict = if slots = reject then .rejected else .dissented true) ∧
    epochBearing .presence = true ∧
    ∀ s ∈ [joinInSlots, pass (.missingEdge .closingEdge) joinInSlots],
      s.Delivers both (s.delivery both) ∧ (s.delivery both).own = true ∧ s.sel.offered = some .join ∧
      (s.delivery both).frame = some { sender := 0, content := .join } ∧
      (s.delivery both).verdict = (if s.line.reception = .slotFault then .slotFault else .dissented true) ∧
      s.table.validity ≠ .complete ∧ s.transfer.phase = .closed := by
  refine ⟨fun n hn slots hs => ?_, rfl, fun s hs => ?_⟩
  · fin_cases hn <;> fin_cases hs <;>
      exact ⟨delivers_of _ _ (by decide +kernel), by decide +kernel⟩
  · fin_cases hs <;>
      exact ⟨delivers_of _ _ (by decide +kernel), by decide +kernel⟩

/-- Samples with AGREE dominant. -/
def agreed : Slots := { reject := false, agree := true, dissent := false }

/-- An ACQUIRE of station 5, in step, in its slots. -/
def acquiring : State := meets { sender := 5, content := .acquire 7 12 .shared false } base

/-- An own ACQUIRE of lock 12 in its slots. -/
def ownAcquire : State := inSlots (pass (.acquireNoWaitLimit 0x0C 0x00 0xE0) (selected base))

/-- Another station's ACQUIRE; the own PRESENCE and the own ACQUIRE. -/
theorem premises_CommitRaisesTheEpoch :
    (acquiring.Delivers agreed (acquiring.delivery agreed) ∧
      (acquiring.delivery agreed).frame = some { sender := 5, content := .acquire 7 12 .shared false } ∧
      Content.change? (.acquire 7 12 .shared false) = some (.acquire 12 .shared false) ∧
      (acquiring.delivery agreed).verdict = .passed ∧ acquiring.table.validity = .complete ∧
      acquiring.commit.epoch = some 7 ∧
      ¬ (Change.acquire 12 .shared false = .leave ∧ (5 : StationId) = acquiring.ctrl.id) ∧
      Change.acquire 12 .shared false ≠ .evict acquiring.ctrl.id) ∧
    ∀ x ∈ [(inSlots sending, Offered.presence), (ownAcquire, .acquire 12 .shared false)],
      x.1.Delivers agreed (x.1.delivery agreed) ∧ (x.1.delivery agreed).own = true ∧
      (x.1.delivery agreed).frame = some { sender := x.1.ctrl.id, content := x.2.content 7 } ∧
      x.1.sel.offered = some x.2 ∧ x.1.sel.onWire = true ∧
      (x.2.source = .intents → x.1.intents.offer = some { frame := x.2, onWire := true }) ∧
      (x.1.delivery agreed).verdict = .passed ∧ x.1.ctrl.station = .active ∧ x.1.table.validity = .complete ∧
      x.1.commit.epoch = some 7 := by
  refine ⟨⟨delivers_of _ _ (by decide +kernel), by decide +kernel⟩, fun x hx => ?_⟩
  fin_cases hx <;> exact ⟨delivers_of _ _ (by decide +kernel), by decide +kernel⟩

/-- The joiner of 11.4 as it meets a LEAVE of station 5, with a given phase and log. -/
def joinerMeets (phase : JoinPhase) (log : List LogRecord) : State :=
  let s := meets { sender := 5, content := .leave 642 } joiner
  { s with
    transfer := { s.transfer with phase, log, current :=
      if phase = .loading then some { donor := 5, e := 641, j := 641, expected := 5 } else none } }

/-- Thirty-two records. -/
def fullLog : List LogRecord := List.replicate 32 { sender := 2, change := .join }

/-- The same joiner as it meets its own eviction. -/
def evictedJoiner : State := meets { sender := 5, content := .evict 642 9 } joiner

/-- With the log closed; open with 31 records; LOADING from the station that leaves; full; and evicted. And the own JOIN. -/
theorem premises_JoinerLogsTheCommit :
    (∀ s ∈ [joinerMeets .closed [], joinerMeets .listening (fullLog.drop 1), joinerMeets .loading [],
        joinerMeets .listening fullLog],
      s.Delivers noSlots (s.delivery noSlots) ∧ (s.delivery noSlots).own = false ∧
      (s.delivery noSlots).frame = some { sender := 5, content := .leave 642 } ∧
      (s.delivery noSlots).verdict = .passed ∧ s.table.validity ≠ .complete ∧ s.ctrl.station = .seeking ∧
      s.ctrl.attempts < 4) ∧
    (Content.change? (.leave 642) = some .leave ∧ Change.leave ≠ .evict joiner.ctrl.id ∧ (fullLog.drop 1).length = 31) ∧
    (evictedJoiner.Delivers noSlots (evictedJoiner.delivery noSlots) ∧ (evictedJoiner.delivery noSlots).own = false ∧
      (evictedJoiner.delivery noSlots).frame = some { sender := 5, content := .evict 642 9 } ∧
      evictedJoiner.ctrl.id = 9 ∧ (evictedJoiner.delivery noSlots).verdict = .passed ∧
      evictedJoiner.transfer.phase ≠ .closed) ∧
    joinInSlots.Delivers noSlots (joinInSlots.delivery noSlots) ∧ (joinInSlots.delivery noSlots).own = true ∧
      (joinInSlots.delivery noSlots).frame = some { sender := 0, content := .join } ∧
      (joinInSlots.delivery noSlots).verdict = .passed ∧ joinInSlots.ctrl.station = .seeking ∧
      joinInSlots.table.validity ≠ .complete ∧ joinInSlots.transfer.phase = .closed ∧
      joinInSlots.sel.offered = some .join := by
  refine ⟨fun s hs => ?_, by decide +kernel, ⟨delivers_of _ _ (by decide +kernel), by decide +kernel⟩,
    delivers_of _ _ (by decide +kernel), by decide +kernel⟩
  fin_cases hs <;> exact ⟨delivers_of _ _ (by decide +kernel), by decide +kernel⟩

/-- A PRESENCE of a wrong epoch, from which station 1 dissents. -/
def dissenting : State := meets { sender := 5, content := .presence 8 } base

/-- The same station SYNCED, as it meets a GENESIS. -/
def syncedMeets : State :=
  meets { sender := 5, content := .genesis } { base with ctrl := { base.ctrl with station := .synced } }

/-- The four causes: a slot fault, an own frame dissented with AGREE recessive, a dissenting receiver that samples
AGREE, and another's GENESIS at a SYNCED station. -/
theorem premises_FallingOutOfStep :
    let both : Slots := { reject := false, agree := true, dissent := true }
    let dissent : Slots := { reject := false, agree := false, dissent := true }
    (receiving.Delivers noSlots (receiving.delivery noSlots) ∧ receiving.ctrl.station = .active ∧
      receiving.table.validity = .complete ∧ receiving.sel.onWire = false ∧
      (receiving.delivery noSlots).verdict = .slotFault) ∧
    ((inSlots sending).Delivers dissent ((inSlots sending).delivery dissent) ∧
      ((inSlots sending).delivery dissent).own = true ∧
      ((inSlots sending).delivery dissent).verdict = .dissented false ∧
      ((inSlots sending).delivery dissent).frame = some { sender := 1, content := .presence 7 } ∧
      epochBearing .presence = true) ∧
    (dissenting.Delivers both (dissenting.delivery both) ∧ (dissenting.delivery both).own = false ∧
      (dissenting.delivery both).verdict = .dissented true ∧ (dissenting.delivery both).drove.dissent = true) ∧
    syncedMeets.Delivers noSlots (syncedMeets.delivery noSlots) ∧ syncedMeets.ctrl.station = .synced ∧
      (syncedMeets.delivery noSlots).own = false ∧ (syncedMeets.delivery noSlots).verdict = .passed ∧
      (syncedMeets.delivery noSlots).frame = some { sender := 5, content := .genesis } :=
  ⟨⟨delivers_of _ _ (by decide +kernel), by decide +kernel⟩,
    ⟨delivers_of _ _ (by decide +kernel), by decide +kernel⟩,
    ⟨delivers_of _ _ (by decide +kernel), by decide +kernel⟩,
    delivers_of _ _ (by decide +kernel), by decide +kernel⟩

/-- The own GENESIS in its slots. -/
def founding : State := inSlots (pass .firstContactExpiry { joiner with ctrl := { joiner.ctrl with contact := false } })

/-- The own READY of station 1 in its slots: SYNCED, and JOINING in a group of 2 and 5 at epoch 7. -/
def readyInSlots : State :=
  let s := active 1 [2, 5] 7
  inSlots (State.choose
    { s with
      table := { s.table with members := s.table.members.set 1 { status := .joining, joinEpoch := 6 } },
      ctrl := { s.ctrl with station := .synced, control := some .ready, presence := .stopped, joinDeadline := .running } })

theorem premises_OwnGenesisFoundsTheGroup :
    (founding.Delivers noSlots (founding.delivery noSlots) ∧ (founding.delivery noSlots).own = true ∧
      (founding.delivery noSlots).frame = some { sender := 9, content := .genesis } ∧
      (founding.delivery noSlots).verdict = .passed ∧ founding.sel.offered = some .genesis) ∧
    readyInSlots.Delivers agreed (readyInSlots.delivery agreed) ∧ (readyInSlots.delivery agreed).own = true ∧
      (readyInSlots.delivery agreed).frame = some { sender := readyInSlots.ctrl.id, content := .ready 7 } ∧
      (readyInSlots.delivery agreed).verdict = .passed ∧ readyInSlots.ctrl.station = .synced ∧
      readyInSlots.table.validity = .complete ∧ readyInSlots.commit.epoch = some 7 ∧
      readyInSlots.sel.offered = some .ready ∧
      entryAt readyInSlots.table.members readyInSlots.ctrl.id = { status := .joining, joinEpoch := 6 } :=
  ⟨⟨delivers_of _ _ (by decide +kernel), by decide +kernel⟩, delivers_of _ _ (by decide +kernel), by decide +kernel⟩

/-- The own LEAVE in its slots. -/
def leaving : State := inSlots (pass (.leave 0xFC) (selected base))

/-- An EVICT of this station by station 5, in its slots. -/
def evicted : State := meets { sender := 5, content := .evict 7 1 } base

theorem premises_OwnDepartureLeavesTheGroup :
    (leaving.Delivers agreed (leaving.delivery agreed) ∧
      (leaving.delivery agreed).frame = some { sender := 1, content := .leave 7 } ∧ leaving.ctrl.id = 1 ∧
      (leaving.delivery agreed).verdict = .passed ∧ leaving.table.validity = .complete ∧
      leaving.commit.epoch = some 7 ∧ leaving.ctrl.station = .active ∧
      (leaving.sel.offered = some .leave ∧ Offered.content 7 .leave = .leave 7)) ∧
    evicted.Delivers agreed (evicted.delivery agreed) ∧
      (evicted.delivery agreed).frame = some { sender := 5, content := .evict 7 1 } ∧ evicted.ctrl.id = 1 ∧
      (evicted.delivery agreed).own = false ∧ (evicted.delivery agreed).verdict = .passed ∧
      statusIn evicted.table.members 1 ≠ .absent ∧ evicted.ctrl.station = .active :=
  ⟨⟨delivers_of _ _ (by decide +kernel), by decide +kernel⟩,
    delivers_of _ _ (by decide +kernel), by decide +kernel⟩

/-- A lock segment of 11.4 in its slots at its joiner, LOADING with a given expected index. -/
def loading (expected : Nat) (pair : Fin 32) (first : LockEntry) : State :=
  assembled { sender := 2, content := .snapshot 9 641 641 (.locks pair first .fresh) }
    { joiner with
      table := loadMembers records641,
      ctrl := { joiner.ctrl with station := .receiving },
      transfer := { joiner.transfer with
        phase := .loading, current := some { donor := 2, e := 641, j := 641, expected } } }

/-- A SHARED lock without a holder. -/
def unlawful : LockEntry := { LockEntry.fresh with mode := .shared }

theorem fresh_lawful (members : Vector MemberEntry 16) : LockEntry.fresh.Lawful members where
  free := by decide
  shared := by decide
  exclusive := by decide
  once := by decide
  fit := by decide
  parties := fun i h => absurd h (by revert i; decide)
  head := fun _ _ h => by cases h

/-- Segment 0 of 11.4 at its joiner: every check holds; with J 640 in its header the first does not. Lock segments that are
not awaited, awaited below index 32 and at it, and refused. -/
theorem premises_SegmentZeroStartsTheReception :
    let s := assembled segment0 joiner
    ((s.Delivers noSlots (s.delivery noSlots) ∧ (s.delivery noSlots).own = false ∧
      (s.delivery noSlots).frame = some segment0 ∧ s.ctrl.id = 9 ∧ (s.delivery noSlots).verdict = .passed ∧
      s.transfer.phase ≠ .closed ∧ s.ctrl.station = .seeking) ∧
    (entryAt records641 9 = { status := .joining, joinEpoch := 641 } ∧ statusIn records641 2 = .active ∧
      (∀ i : StationId, i < 2 → statusIn records641 i ≠ .active) ∧
      (∀ i, statusIn records641 i ≠ .joining → (entryAt records641 i).joinEpoch = 0) ∧
      s.transfer.discards ≤ 0 ∧ 0 ≤ s.transfer.discards + s.transfer.log.length) ∧
    entryAt records641 9 ≠ { status := .joining, joinEpoch := 640 }) ∧
    (∀ x ∈ ([(30, 31, .fresh), (31, 30, .fresh), (32, 31, .fresh), (32, 31, unlawful)] : List (Nat × Fin 32 × LockEntry)),
      (loading x.1 x.2.1 x.2.2).Delivers noSlots ((loading x.1 x.2.1 x.2.2).delivery noSlots) ∧
      ((loading x.1 x.2.1 x.2.2).delivery noSlots).own = false ∧
      ((loading x.1 x.2.1 x.2.2).delivery noSlots).frame =
        some { sender := 2, content := .snapshot 9 641 641 (.locks x.2.1 x.2.2 .fresh) } ∧
      (loading x.1 x.2.1 x.2.2).ctrl.id = 9 ∧ ((loading x.1 x.2.1 x.2.2).delivery noSlots).verdict = .passed ∧
      (loading x.1 x.2.1 x.2.2).transfer.phase = .loading ∧
      (loading x.1 x.2.1 x.2.2).transfer.current = some { donor := 2, e := 641, j := 641, expected := x.1 } ∧
      (loading x.1 x.2.1 x.2.2).ctrl.station = .receiving) ∧
    LockEntry.fresh.Lawful records641 ∧ ¬ unlawful.Lawful records641 := by
  refine ⟨⟨⟨delivers_of _ _ (by decide +kernel), by decide +kernel⟩, by decide +kernel⟩, fun x hx => ?_,
    fresh_lawful _, fun h => h.shared rfl rfl⟩
  fin_cases hx <;> exact ⟨delivers_of _ _ (by decide +kernel), by decide +kernel⟩

/-- Station 2 of 11.4 as it meets the JOIN of station 9. -/
def donorMeets : State := meets { sender := 9, content := .join } (active 2 [5, 14] 640)

/-- The donor's image of 11.4. -/
def image9 : Image :=
  { members := records641, locks := Vector.replicate 64 LockEntry.fresh, e := 641, target := 9, j := 641 }

/-- Station 2 of 11.4 with a segment of the image in its slots. -/
def donating (n : Fin 33) : State :=
  let s := active 2 [5, 14] 641
  let f : Offered := .segment 9 641 641 (image9.segment n)
  { s with
    table := { s.table with members := records641 },
    transfer := { s.transfer with donorPhase := .serving, image := some image9, nextSegment := n },
    sel := { s.sel with offered := some f, onWire := true },
    line := { s.line with rx := .verdict, tx := .slots, fixed := some { sender := 2, content := f.content 641 } } }

theorem premises_DonorServesTheOldestJoiner :
    (donorMeets.Delivers noSlots (donorMeets.delivery noSlots) ∧ (donorMeets.delivery noSlots).own = false ∧
      (donorMeets.delivery noSlots).frame = some { sender := 9, content := .join } ∧
      (donorMeets.delivery noSlots).verdict = .passed ∧ donorMeets.ctrl.station = .active ∧
      donorMeets.table.validity = .complete ∧ donorMeets.commit.epoch = some 640 ∧ (9 : StationId) ≠ donorMeets.ctrl.id ∧
      donorMeets.transfer.donorPhase = .free ∧ { station := 9, joinEpoch := 641 } ∉ donorMeets.transfer.served) ∧
    ∀ n ∈ ([31, 32] : List (Fin 33)),
      (donating n).Delivers noSlots ((donating n).delivery noSlots) ∧ ((donating n).delivery noSlots).own = true ∧
      (donating n).transfer.donorPhase = .serving ∧ (donating n).transfer.image = some image9 ∧
      ((donating n).delivery noSlots).frame = some
        { sender := 2, content := .snapshot image9.target image9.e image9.j (image9.segment n) } ∧
      (donating n).sel.offered = some (.segment image9.target image9.e image9.j (image9.segment n)) ∧
      ((donating n).delivery noSlots).verdict = .passed := by
  refine ⟨⟨delivers_of _ _ (by decide +kernel), by decide +kernel⟩, fun n hn => ?_⟩
  exact ⟨delivers_of _ _ rfl, rfl, rfl, rfl, rfl, rfl, rfl⟩

theorem premises_PresenceAndSilenceExpiry :
    base.inReset = false ∧ base.ctrl.presence = .running ∧ entryAt base.ctrl.silence 5 = .running := by
  decide +kernel

/-- The joiner of 11.4 with its READY on the wire. -/
def readying : State :=
  { joiner with sel := { offered := some .ready, onWire := true, yieldFlag := false, yieldWait := .stopped } }

/-- With the contact mark set and clear; with the own READY on the wire and without; with 3 attempts and with 4. -/
theorem premises_JoinTimersExpire :
    (joiner.inReset = false ∧ joiner.ctrl.firstContact = .running ∧ joiner.ctrl.contact = true) ∧
      (∃ s : State, s.inReset = false ∧ s.ctrl.firstContact = .running ∧ s.ctrl.contact = false) ∧
      (readying.inReset = false ∧ readying.ctrl.joinDeadline = .running ∧ readying.sel.onWire = true ∧
        readying.sel.offered = some .ready) ∧
      ∀ n ∈ [3, 4], ∃ s : State, s.inReset = false ∧ s.ctrl.joinDeadline = .running ∧
        ¬ (s.sel.onWire = true ∧ s.sel.offered = some .ready) ∧ s.ctrl.attempts = n :=
  ⟨by decide +kernel, ⟨{ joiner with ctrl := { joiner.ctrl with contact := false } }, rfl, rfl, rfl⟩, by decide +kernel,
    fun n _ => ⟨{ joiner with ctrl := { joiner.ctrl with attempts := n } }, rfl, rfl,
      (by decide +kernel : ¬ (joiner.sel.onWire = true ∧ joiner.sel.offered = some .ready)), rfl⟩⟩

theorem premises_WaitExpiryFollowsTable8_4 :
    (base.setWaitTimer 63 .running).inReset = false ∧
      entryAt (base.setWaitTimer 63 .running).intents.timers 63 = .running := by
  decide +kernel

/-- A settled entry; an EXCLUSIVE head of a FREE lock; and two SHARED heads before an EXCLUSIVE waiter. -/
theorem premises_GrantRuleServesTheHeadOfTheList :
    settled LockEntry.fresh = true ∧
      ({ LockEntry.fresh with waiters := [{ station := 9, mode := .exclusive }] } : LockEntry).mode = .free ∧
      let run : List Waiter := [{ station := 2, mode := .shared }, { station := 7, mode := .shared }]
      let rest : List Waiter := [{ station := 9, mode := .exclusive }, { station := 5, mode := .shared }]
      LockEntry.fresh.mode ≠ .exclusive ∧ lock12.waiters = run ++ rest ∧ run ≠ [] ∧ (∀ w ∈ run, w.mode = .shared) ∧
        ∀ w ∈ rest.head?, w.mode = .exclusive := by
  decide +kernel

/-- A settled lock, a holder and a station that holds nothing, a waiter and a station that does not wait; an ACTIVE sender
and one that is not. -/
theorem premises_RequestsChangeOneEntry :
    settled lock12 = true ∧ lock12.holds 4 = true ∧ lock12.holds 2 = false ∧ lock12.waits 2 = true ∧
      lock12.waits 4 = false ∧ statusIn base.table.members 5 = .active ∧ statusIn base.table.members 9 ≠ .active := by
  decide +kernel

/-- Lock 12 of Table 3-4 beside a table in which its parties are ACTIVE. -/
theorem premises_PurgeRemovesTheStation : lock12.Lawful (active 4 [2, 5, 7, 9] 500).table.members where
  free := by decide +kernel
  shared := by decide +kernel
  exclusive := fun _ => ⟨4, rfl⟩
  once := by decide +kernel
  fit := by decide +kernel
  parties := by decide +kernel
  head := by
    intro w rest h
    cases h
    rfl

/-- An own ACQUIRE on the wire, without a mark. -/
def requesting : State := pass (.acquireNoWaitLimit 0x0C 0x00 0xE0) (selected base)

theorem premises_NoticesMoveTheIntent :
    ((requesting.intent 12).tryFlag = some false ∧ (requesting.intent 12).waitLimit = some 0 ∧
      (requesting.intent 12).state = .requesting ∧ requesting.acquireOnWire 12 = true ∧
      (requesting.intent 12).mark = none) ∧
      (∀ st ∈ [IntentState.idle, .requesting, .waiting, .held, .releasing, .cancelling],
        ((intentAs 12 st .shared none base).intent 12).state = st ∧
          (intentAs 12 st .shared none base).acquireOnWire 12 = false ∧
          (intentAs 12 st .shared none base).sel.onWire = false) ∧
      ∀ cause, (((base.setIntent 63 { IntentRecord.idle with state := .cancelling, cause := some cause }).intent 63).state
        = .cancelling) ∧
        ((base.setIntent 63 { IntentRecord.idle with state := .cancelling, cause := some cause }).intent 63).cause =
          some cause := by
  refine ⟨by decide +kernel, by decide +kernel, fun cause => ?_⟩
  cases cause <;> decide +kernel

/-- R149: the own ACQUIRE of lock 12 is on the wire and a RELEASE of that lock waits behind it; DUPLICATE_NOOP withdraws
the RELEASE, and the ACQUIRE leaves at its offer's end. -/
theorem test_stray_notice_withdraws_waiting_release :
    let s := requesting.enqueue (.release 12)
    s.intents.queue.map QueueEntry.lock? = [some 12, some 12] ∧
      (s.takeNotice (.own 12 .duplicate)).intents.queue = requesting.intents.queue ∧
      (s.takeNotice (.own 12 .duplicate)).sel = s.sel := by
  decide +kernel

/-- A lock segment with 15 waiters in its first entry. -/
theorem premises_FramesAreReadAsSent :
    let e : LockEntry := { lock12 with waiters := List.replicate 15 { station := 2, mode := .shared } }
    ∃ f : Frame, f.content = .snapshot 9 641 641 (.locks 31 e .fresh) ∧ e.waiters.length ≤ 15 ∧
      LockEntry.fresh.waiters.length ≤ 15 ∧ (3 : StationId) ≠ f.sender :=
  ⟨{ sender := 2, content := _ }, rfl, by decide, by decide, by decide⟩

/-- The queue of `withEvent` with its READ_EVENT captured, and a step of that station. -/
theorem premises_EveryStepKeepsTheEventQueue :
    (pass (.readEvent 0xD0) (selected withEvent)).events.Lawful ∧
      ∃ t, step (pass (.readEvent 0xD0) (selected withEvent)) = .next t := by
  refine ⟨⟨by decide +kernel, by decide +kernel, by decide +kernel, ?_⟩, _, rfl⟩
  intro rd h
  have h' : rd = { key := .lock 12, changed := false, merges := 0 } := by
    have : (pass (.readEvent 0xD0) (selected withEvent)).events.reading =
      some { key := .lock 12, changed := false, merges := 0 } := by decide +kernel
    rw [this] at h
    exact (Option.some.inj h).symm
  subst h'
  exact ⟨⟨{ event := .lock 12 .lost, merged := 1 }, [], by decide +kernel⟩, by decide, by decide⟩

theorem premises_EveryStepKeepsTheLimits :
    (selected withEvent).WithinLimits ∧ ∃ t, step (selected withEvent) = .next t := by
  refine ⟨?_, _, rfl⟩
  constructor <;> decide +kernel

/-- A blank lock table, as it stands after reset. -/
theorem premises_EveryStepKeepsTheLockTable :
    State.reset.table.Lawful ∧ ∃ t, step State.reset = .next t := by
  refine ⟨fun l => ?_, _, rfl⟩
  have h : entryAt State.reset.table.locks l = LockEntry.fresh := by revert l; decide +kernel
  rw [h]
  exact fresh_lawful _

/-- Stations 1 and 2 as they meet an ACQUIRE of station 5. -/
def acquiring2 : State := meets { sender := 5, content := .acquire 7 12 .shared false } (active 2 [1, 5] 7)

theorem premises_StationsInStepStayInStep :
    acquiring.Delivers agreed (acquiring.delivery agreed) ∧ acquiring2.Delivers agreed (acquiring2.delivery agreed) ∧
      (acquiring.delivery agreed).frame = some { sender := 5, content := .acquire 7 12 .shared false } ∧
      (acquiring2.delivery agreed).frame = some { sender := 5, content := .acquire 7 12 .shared false } ∧
      (acquiring.delivery agreed).verdict = .passed ∧ (acquiring2.delivery agreed).verdict = .passed ∧
      acquiring.table.validity = .complete ∧ acquiring.table = acquiring2.table ∧
      acquiring.commit.epoch = acquiring2.commit.epoch ∧ acquiring.commit.epoch.isSome = true ∧
      (pass (.frameDelivery agreed) acquiring).table.validity = .complete ∧
      (pass (.frameDelivery agreed) acquiring2).table.validity = .complete :=
  ⟨delivers_of _ _ (by decide +kernel), delivers_of _ _ (by decide +kernel), by decide +kernel⟩

/-! ### The clauses of those obligations beside their first -/

/-- A slot fault at the joiner of 11.4 with its log open, in SEEKING and in RECEIVING, with 3 attempts and with 4; and at a
station without a table whose log is closed. -/
def gapAt (st : StationState) (phase : JoinPhase) (attempts : Nat) : State :=
  let s := pass (.missingEdge .closingEdge) (joinerMeets phase [])
  { s with ctrl := { s.ctrl with station := st, attempts } }

theorem premises_FailedFrameIsAppliedNowhere_slotFault :
    ∀ s ∈ [gapAt .seeking .listening 3, gapAt .seeking .listening 4, gapAt .receiving .loading 3, gapAt .seeking .closed 1],
      s.Delivers noSlots (s.delivery noSlots) ∧ (s.delivery noSlots).own = false ∧
      (s.delivery noSlots).verdict = .slotFault ∧ s.table.validity ≠ .complete := by
  intro s hs
  fin_cases hs <;> exact ⟨delivers_of _ _ (by decide +kernel), by decide +kernel⟩

/-- The own JOIN met with a slot fault while the log is open, at a count of 14 and of 15; the own GENESIS dissented. -/
theorem premises_FailedOwnFrameIsCounted_gap_and_genesis :
    let both : Slots := { reject := false, agree := true, dissent := true }
    let dissent : Slots := { reject := false, agree := false, dissent := true }
    (∀ n ∈ [14, 15],
      let s := failed n (pass (.missingEdge .closingEdge)
        { joinInSlots with transfer := { joinInSlots.transfer with phase := .listening } })
      s.Delivers noSlots (s.delivery noSlots) ∧ (s.delivery noSlots).own = true ∧
      (s.delivery noSlots).frame = some { sender := 0, content := .join } ∧ s.sel.offered = some .join ∧
      (s.delivery noSlots).verdict = .slotFault ∧ s.table.validity ≠ .complete ∧ s.transfer.phase ≠ .closed ∧
      s.sel.onWire = true ∧ s.ctrl.station = .seeking ∧ s.commit.failures = n) ∧
    ∀ slots ∈ [both, dissent],
      founding.Delivers slots (founding.delivery slots) ∧ (founding.delivery slots).own = true ∧
      (founding.delivery slots).frame = some { sender := 9, content := .genesis } ∧
      founding.sel.offered = some .genesis ∧ (founding.delivery slots).verdict = .dissented slots.agree := by
  refine ⟨fun n hn => ?_, fun slots hs => ?_⟩
  · fin_cases hn <;> exact ⟨delivers_of _ _ (by decide +kernel), by decide +kernel⟩
  · fin_cases hs <;> exact ⟨delivers_of _ _ (by decide +kernel), by decide +kernel⟩

/-- Station 1 ACTIVE beside 2 and 5, with 9 JOINING, as it meets a frame. -/
def neighbourMeets (f : Frame) : State :=
  meets f
    { base with table := { base.table with members := base.table.members.set 9 { status := .joining, joinEpoch := 6 } } }

/-- JOIN and READY of a station that is JOINING, JOIN and EVICT of one that is ABSENT, LEAVE and EVICT of one that is
ACTIVE. -/
theorem premises_CommitRaisesTheEpoch_membership :
    ∀ m ∈ ([({ sender := 9, content := .join }, .join, 9), ({ sender := 9, content := .ready 7 }, .ready, 9),
        ({ sender := 12, content := .join }, .join, 12), ({ sender := 5, content := .evict 7 12 }, .evict 12, 12),
        ({ sender := 5, content := .leave 7 }, .leave, 5), ({ sender := 5, content := .evict 7 2 }, .evict 2, 2)] :
        List (Frame × Change × StationId)),
      let s := neighbourMeets m.1
      let slots := sampled s false false false
      s.Delivers slots (s.delivery slots) ∧ (s.delivery slots).own = false ∧ (s.delivery slots).frame = some m.1 ∧
      m.1.content.change? = some m.2.1 ∧ (s.delivery slots).verdict = .passed ∧ s.ctrl.station = .active ∧
      s.table.validity = .complete ∧ s.commit.epoch = some 7 ∧ m.2.2 ≠ s.ctrl.id ∧
      (((m.2.1 = .join ∨ m.2.1 = .ready ∨ m.2.1 = .leave) ∧ m.2.2 = m.1.sender) ∨ m.2.1 = .evict m.2.2) := by
  intro m hm
  fin_cases hm <;> exact ⟨delivers_of _ _ (by decide +kernel), by decide +kernel⟩

/-- A GENESIS of station 5 in its slots, at a station in a given state and join phase. -/
def genesisMeets (st : StationState) (control : Option Control) (phase : JoinPhase) : State :=
  meets { sender := 5, content := .genesis }
    { joiner with
      ctrl := { joiner.ctrl with station := st, control }
      transfer := { joiner.transfer with phase } }

theorem premises_FallingOutOfStep_genesis :
    ∀ s ∈ [genesisMeets .seeking (some .join) .closed, genesisMeets .seeking none .listening,
        genesisMeets .receiving none .loading, genesisMeets .founding (some .genesis) .closed],
      s.Delivers noSlots (s.delivery noSlots) ∧ (s.delivery noSlots).own = false ∧
      (s.delivery noSlots).frame = some { sender := 5, content := .genesis } ∧
      (s.delivery noSlots).verdict = .passed := by
  intro s hs
  fin_cases hs <;> exact ⟨delivers_of _ _ (by decide +kernel), by decide +kernel⟩

/-- Station 1 SYNCED and JOINING, with a given count of attempts, as it meets its own eviction. -/
def syncedEvicted (attempts : Nat) : State :=
  let s := active 1 [2, 5] 7
  meets { sender := 5, content := .evict 7 1 }
    { s with
      table := { s.table with members := s.table.members.set 1 { status := .joining, joinEpoch := 6 } },
      ctrl := { s.ctrl with station := .synced, presence := .stopped, joinDeadline := .running, attempts } }

theorem premises_OwnDepartureLeavesTheGroup_synced :
    ∀ n ∈ [3, 4],
      (syncedEvicted n).Delivers noSlots ((syncedEvicted n).delivery noSlots) ∧
      ((syncedEvicted n).delivery noSlots).own = false ∧
      ((syncedEvicted n).delivery noSlots).frame = some { sender := 5, content := .evict 7 (syncedEvicted n).ctrl.id } ∧
      ((syncedEvicted n).delivery noSlots).verdict = .passed ∧ (syncedEvicted n).table.validity = .complete ∧
      (syncedEvicted n).commit.epoch = some 7 ∧ (syncedEvicted n).ctrl.station = .synced ∧
      statusIn (syncedEvicted n).table.members (syncedEvicted n).ctrl.id ≠ .absent ∧
      (syncedEvicted n).ctrl.attempts = n := by
  intro n hn
  fin_cases hn <;> exact ⟨delivers_of _ _ (by decide +kernel), by decide +kernel⟩

/-- Station 2 of 11.4 SERVING station 9, as it loses the arbitration with a frame of station 5 and meets that frame. -/
def servingMeets (c : Content) : State :=
  after [.busStart, .arbitrationLost, .crcHandoff (rawOf { sender := 5, content := c })]
    { donating 4 with
      sel := { (donating 4).sel with onWire := false }
      line := { (donating 4).line with rx := .quiet, tx := .idle, fixed := none } }

/-- The donor meets the eviction of its joiner, which ends the transfer, and a LEAVE, which does not; the own READY of
a station that is ACTIVE by it; and segment 32, whose pair is not in the served set. -/
theorem premises_DonorServesTheOldestJoiner_evaluation :
    (∀ m ∈ ([(.evict 641 9, .evict 9), (.leave 641, .leave)] : List (Content × Change)),
      let s := servingMeets m.1
      s.Delivers agreed (s.delivery agreed) ∧ (s.delivery agreed).own = false ∧
      (s.delivery agreed).frame = some { sender := 5, content := m.1 } ∧ m.1.change? = some m.2 ∧
      (s.delivery agreed).verdict = .passed ∧ s.table.validity = .complete ∧ s.commit.epoch = some 641 ∧
      s.ctrl.station = .active ∧ (pass (.frameDelivery agreed) s).ctrl.station = .active ∧
      s.transfer.donorPhase = .serving ∧ s.transfer.image = some image9 ∧ s.sel.onWire = false ∧
      s.sel.offered = some (.segment 9 641 641 (image9.segment 4)) ∧
      (entryAt (pass (.frameDelivery agreed) s).table.members 9 = { status := .joining, joinEpoch := image9.j } ↔
        m.2 ≠ .evict 9)) ∧
    ((readyInSlots.delivery agreed).own = true ∧ Content.change? (.ready 7) = some .ready ∧
      Offered.content 7 .ready = .ready 7 ∧ readyInSlots.ctrl.id = 1 ∧
      (pass (.frameDelivery agreed) readyInSlots).ctrl.station = .active) ∧
    (donating 32).ctrl.station = .active ∧ (donating 32).commit.epoch = some 641 ∧
      { station := image9.target, joinEpoch := image9.j } ∉ (donating 32).transfer.served := by
  refine ⟨fun m hm => ?_, by decide +kernel, by decide +kernel⟩
  fin_cases hm <;> exact ⟨delivers_of _ _ (by decide +kernel), by decide +kernel⟩

/-- The join deadline of the joiner of 11.4, with 4 attempts, between the hand-off of a frame whose CRC does not match and
its slots: the joiner was to drive REJECT. -/
theorem premises_JoinTimersExpire_slots :
    let s := after [.busStart, .crcHandoff { rawOf presence5 with crc := 0 }]
      { joiner with ctrl := { joiner.ctrl with attempts := 4 } }
    s.inReset = false ∧ s.ctrl.joinDeadline = .running ∧ ¬ (s.sel.onWire = true ∧ s.sel.offered = some .ready) ∧
      s.ctrl.attempts = 4 ∧ s.line.rx = .verdict ∧ s.line.tx ≠ .slots ∧ s.line.tx ≠ .ending ∧
      s.closingCells.head? = some .zero := by
  decide +kernel

/-- The same joiner once its join deadline has expired: DETACHED, it drives nothing from that cell on (R19, R97). -/
theorem test_given_up_join_drives_no_slot :
    let s := after [.busStart, .crcHandoff { rawOf presence5 with crc := 0 }, .joinDeadlineExpiry]
      { joiner with ctrl := { joiner.ctrl with attempts := 4 } }
    s.ctrl.station = .detached ∧ s.closingCells = [.released, .released, .released, .released] := by
  decide +kernel

/-- The phases of R10 of an own frame without a fault, with time passing between its rows: CONTENDING, SENDING, SLOTS,
ENDING with nothing driven, IDLE. -/
theorem test_own_frame_goes_through_every_phase :
    let won := sending.timePasses
    let slots := inSlots won
    let ended := slots.timePasses
    sending.line.tx = .contending ∧ won.line.tx = .sending ∧ slots.line.tx = .slots ∧ slots.line.rx = .verdict ∧
      ended.line.tx = .ending ∧ ended.line.rx = .closing ∧ ended.closingCells = [] ∧
      (pass (.frameDelivery agreed) ended).line.tx = .idle := by
  decide +kernel

/-- A donor side that is SERVING, and one that is FREE. -/
theorem premises_SourcesAreTakenInOrder :
    (donating 4).transfer.donorPhase = .serving ∧ (donating 4).transfer.image = some image9 ∧
      base.transfer.donorPhase = .free ∧ 1 ≤ (32 : Fin 33).val := by
  decide +kernel

/-- Segments 1 and 32 carry locks 0 and 1, and 62 and 63 (R105). -/
theorem test_segments_carry_their_locks :
    let numbered : Image :=
      { image9 with locks := Vector.ofFn (fun l => { LockEntry.fresh with grants := BitVec.ofNat 16 l.val }) }
    let grants (k : Fin 33) : List Nat :=
      match numbered.segment k with
      | .locks _ a b => [a.grants.toNat, b.grants.toNat]
      | .members _ => []
    grants 0 = [] ∧ grants 1 = [0, 1] ∧ grants 32 = [62, 63] := by
  decide +kernel

/-- A SNAPSHOT in its slots at the joiner of 11.4: of index 0 while the log is CLOSED, of index 1 while it is LISTENING,
and for another target. -/
theorem premises_FailedFrameIsAppliedNowhere_snapshot :
    ∀ m ∈ ([(segment0, .closed), ({ sender := 2, content := .snapshot 9 641 641 (.locks 0 .fresh .fresh) }, .listening),
        ({ sender := 2, content := .snapshot 10 641 641 (.members records641) }, .listening)] : List (Frame × JoinPhase)),
      let s := assembled m.1 { joiner with transfer := { joiner.transfer with phase := m.2 } }
      s.Delivers noSlots (s.delivery noSlots) ∧ (s.delivery noSlots).own = false ∧
      (s.delivery noSlots).frame = some m.1 ∧ (s.delivery noSlots).verdict = .passed ∧ s.ctrl.id = 9 ∧
      s.transfer.phase = m.2 := by
  intro m hm
  fin_cases hm <;> exact ⟨delivers_of _ _ (by decide +kernel), by decide +kernel⟩

/-- The own CANCEL of lock 12 in its slots. -/
def ownCancel : State :=
  inSlots (State.choose (base.setIntent 12
    { IntentRecord.idle with
      state := .cancelling, mode := some .shared, tryFlag := some false, waitLimit := some 0, cause := some .host,
      outstanding := some .due }))

/-- The own RELEASE of lock 12 in its slots. -/
def ownRelease : State := inSlots (pass (.release 0x0C 0xDE) (selected (intentAs 12 .held .shared (some 1) base)))

/-- The own ACQUIRE, CANCEL and RELEASE; another station's ACQUIRE is that of `premises_CommitRaisesTheEpoch`. -/
theorem premises_CommitRaisesTheEpoch_requests :
    ∀ m ∈ ([(ownAcquire, .acquire 12 .shared false, .acquire 12 .shared false), (ownCancel, .cancel 12, .cancel 12),
        (ownRelease, .release 12, .release 12)] : List (State × Offered × Change)),
      m.1.Delivers agreed (m.1.delivery agreed) ∧ (m.1.delivery agreed).own = true ∧
      (m.1.delivery agreed).frame = some { sender := m.1.ctrl.id, content := m.2.1.content 7 } ∧
      (m.2.1.content 7).change? = some m.2.2 ∧ (m.1.delivery agreed).verdict = .passed ∧
      m.1.table.validity = .complete ∧ m.1.commit.epoch = some 7 ∧ m.1.sel.offered = some m.2.1 ∧
      m.1.sel.onWire = true ∧ m.1.intents.offer = some { frame := m.2.1, onWire := true } := by
  intro m hm
  fin_cases hm <;> exact ⟨delivers_of _ _ (by decide +kernel), by decide +kernel⟩

/-! ### The format faults of R15 at their bounds -/

/-- A frame of station 5 with a given payload, its LENGTH and its CRC right. -/
def framed (code : BitVec 6) (payload : List Byte) : RawFrame :=
  let length : Byte := BitVec.ofNat 8 payload.length
  { code, sender := 5, length, payload, crc := crcOf code 5 length payload }

/-- A SNAPSHOT's payload with a given target, index and content. -/
def snapshotOf (target index : Byte) (content : List Byte) : List Byte := [target, 2, 129, 2, 129, index] ++ content

/-- An entry of a segment with a given mode, count and waiters. -/
def entryOf (mode count : Byte) (waiters : List Byte) : List Byte := [mode, 0, 0, 0, 0, count] ++ waiters

/-- Each fault of R15 one step past its bound: lock 64, mode bytes 0x02 and 0x82, target 16, index 33, a mode of 3, a
count of 16, a waiter byte of 32, a content that ends early and one that goes on. -/
theorem test_format_faults_past_their_bounds :
    ∀ raw ∈ [framed 0x21 [0, 7, 64, 0], framed 0x21 [0, 7, 63, 0x02], framed 0x21 [0, 7, 63, 0x82], framed 0x22 [0, 7, 64],
        framed 0x23 [0, 7, 64], framed 0x06 [0, 7, 16],
        framed 0x12 (snapshotOf 16 1 (entryOf 0 0 [] ++ entryOf 0 0 [])),
        framed 0x12 (snapshotOf 9 33 (entryOf 0 0 [] ++ entryOf 0 0 [])),
        framed 0x12 (snapshotOf 9 1 (entryOf 3 0 [] ++ entryOf 0 0 [])),
        framed 0x12 (snapshotOf 9 1 (entryOf 0 16 (List.replicate 16 0) ++ entryOf 0 0 [])),
        framed 0x12 (snapshotOf 9 1 (entryOf 0 0 [] ++ entryOf 0 1 [32])),
        framed 0x12 (snapshotOf 9 1 (entryOf 0 0 [] ++ entryOf 0 2 [31])),
        framed 0x12 (snapshotOf 9 1 (entryOf 0 0 [] ++ entryOf 0 1 [31, 0])), { framed 0x04 [] with crc := 0 }],
      raw.wf = true ∧ formatFaultOf raw 1 = true := by
  intro raw hr
  fin_cases hr <;> decide +kernel

/-- And at its bound; the sender's own id is a fault at no other station. -/
theorem test_format_faults_at_their_bounds :
    ∀ raw ∈ [framed 0x21 [0, 7, 63, 0x81], framed 0x22 [0, 7, 63], framed 0x23 [0, 7, 63], framed 0x06 [0, 7, 15],
        framed 0x12 (snapshotOf 15 32 (entryOf 2 15 (List.replicate 15 31) ++ entryOf 0 0 [])),
        framed 0x04 []],
      raw.wf = true ∧ formatFaultOf raw 1 = false ∧ formatFaultOf raw 5 = true := by
  intro raw hr
  fin_cases hr <;> decide +kernel

/-- At index 0 the content is read with status bytes up to 2 and a LENGTH of 54, and with no other. -/
theorem test_segment_zero_content :
    (parseSnapshot (snapshotOf 9 0 (List.replicate 45 0 ++ [2, 0, 0]))).isSome = true ∧
      ∀ bytes ∈ [List.replicate 45 0 ++ [3, 0, 0], List.replicate 47 0, List.replicate 49 0],
        parseSnapshot (snapshotOf 9 0 bytes) = none := by
  decide +kernel

end Sys2Proof.Tests
end

section
/-! SUPPORT. The CRC hand-off of another station's frame, and the check of R20. -/

namespace Sys2Proof.Machine

/-! ### The epoch field of a frame -/

/-- The seven kinds of content that carry an epoch field (R20). -/
theorem Content.epoch?_eq_some_iff (c : Content) (e : Word16) :
    c.epoch? = some e ↔
      (∃ x, c = .evict e x) ∨ c = .leave e ∨ c = .ready e ∨ (∃ l m y, c = .acquire e l m y) ∨
        (∃ l, c = .release e l) ∨ (∃ l, c = .cancel e l) ∨ c = .presence e := by
  cases c <;> simp [Content.epoch?]

@[simp] theorem epochBearing_kind (c : Content) : epochBearing c.kind = c.epoch?.isSome := by
  cases c <;> rfl

theorem Content.kind_eq_ready_iff {c : Content} {e : Word16} (h : c.epoch? = some e) :
    c.kind = .ready ↔ c = .ready e := by
  cases c <;> simp_all [Content.epoch?, Content.kind]

/-! ### The drive of an ACTIVE station -/

/-- The status that R20 requires of the sender of an epoch-bearing frame. -/
def requiredStatus (k : Kind) : MemberStatus := if k = .ready then .joining else .active

/-- The model's check of R20 is the conjunction of its two tests. -/
theorem State.epochCheck_eq_decide {s : State} {c : Content} {epoch own : Word16} (sender : StationId)
    (hepoch : c.epoch? = some epoch) (hown : s.commit.epoch = some own) :
    s.epochCheck sender c =
      decide (epoch = own ∧ (entryAt s.table.members sender).status = requiredStatus c.kind) := by
  unfold State.epochCheck requiredStatus statusIn
  split <;> simp [hepoch, hown, Bool.beq_eq_decide_eq]

/-- Table 2-1, ACTIVE, no format fault, an epoch-bearing kind. -/
theorem State.driveFor_active_of_epoch? {s : State} {c : Content} {epoch : Word16} (sender : StationId)
    (hactive : s.ctrl.station = .active) (hepoch : c.epoch? = some epoch) :
    s.driveFor sender (some c) =
      { reject := false, agree := s.epochCheck sender c, dissent := !s.epochCheck sender c } := by
  simp [State.driveFor, State.activeDrive, StationState.silent, hactive, hepoch]

/-! ### The hand-off -/

/-- A station that follows another station's frame hands it off as a received one (R14). -/
theorem exec_crcHandoff_received {raw : RawFrame} {s : State} (hreset : s.inReset = false)
    (hfollows : s.line.followsBody = true) (hbody : s.line.inBody = false) (hplaced : placeable raw = true) :
    exec (.crcHandoff raw) s = .next (s.handOffReceived raw) := by
  have harm : exec (.crcHandoff raw) s = execCrcHandoff raw s := rfl
  simp [harm, execCrcHandoff, State.unlessReset, State.crcHandoff, hreset, hfollows, hbody, hplaced]

theorem State.handOffReceived_drive (s : State) (raw : RawFrame) :
    (s.handOffReceived raw).commit.drive =
      s.driveFor raw.sender (if formatFaultOf raw s.ctrl.id then none else contentOf raw) := rfl

/-- Settles O31: the received frame is handed off, Table 2-1 answers it by the check of R20, and that check is the two
tests. -/
theorem activeStationTestsEpochAndSender : Obligations.ActiveStationTestsEpochAndSender := by
  intro raw s t c epoch own hreset hfollows hbody hwf hactive hown hformat hcontent hkinds hexec
  have hepoch : c.epoch? = some epoch := (c.epoch?_eq_some_iff epoch).mpr hkinds
  obtain rfl : s.handOffReceived raw = t :=
    Host.Outcome.next.inj ((exec_crcHandoff_received hreset hfollows hbody hwf).symm.trans hexec)
  have hdrive : (s.handOffReceived raw).commit.drive = s.driveFor raw.sender (some c) := by
    simp [State.handOffReceived_drive, hformat, hcontent]
  rw [hdrive, State.driveFor_active_of_epoch? raw.sender hactive hepoch,
    State.epochCheck_eq_decide raw.sender hepoch hown]
  simp only [requiredStatus, Content.kind_eq_ready_iff hepoch]

end Sys2Proof.Machine
end

section
/-! SUPPORT. What the station does inside does not read the host port: each operation answers the same with another port
in its place. So a host command may be read at the state in which its check byte completes, whatever part of it the
shift buffer held then. -/

namespace Sys2Proof.Machine

/-! ### The choice of the selector -/

theorem State.placeCancel_setPort (s : State) (x : HostPort) (l : LockId) (p : CancelPlace) :
    (s.setPort x).placeCancel l p = (s.placeCancel l p).setPort x := by
  have hintent : (s.setPort x).intent l = s.intent l := rfl
  unfold State.placeCancel
  rw [hintent]
  dsimp only
  split <;> rfl

theorem State.recordOffer_setPort (s : State) (x : HostPort) (f : Offered) (onWire : Bool) :
    (s.setPort x).recordOffer f onWire = (s.recordOffer f onWire).setPort x := by
  cases f with
  | cancel l => exact State.placeCancel_setPort (s.setIntents _) x l _
  | _ => rfl

theorem State.placeFrame_setPort (s : State) (x : HostPort) (f : Offered) :
    (s.setPort x).placeFrame f = (s.placeFrame f).setPort x := by
  unfold State.placeFrame
  dsimp only
  split
  · exact State.recordOffer_setPort (s.setSel _) x f false
  · rfl

theorem State.driveSof_setPort (s : State) (x : HostPort) : (s.setPort x).driveSof = s.driveSof.setPort x := by
  unfold State.driveSof
  rw [State.setPort_sel]
  cases s.sel.offered with
  | none => rfl
  | some f =>
    dsimp only
    split
    · exact State.recordOffer_setPort ((s.setLine _).setSel _).busStarts x f true
    · rfl

theorem State.choice_setPort (s : State) (x : HostPort) : (s.setPort x).choice = s.choice.setPort x := by
  have hfirst : (s.setPort x).firstAvailable = s.firstAvailable := rfl
  have honly : (s.setPort x).onlyHeldBack = s.onlyHeldBack := rfl
  unfold State.choice
  rw [hfirst, honly]
  cases s.firstAvailable with
  | some f =>
    dsimp only
    rw [State.placeFrame_setPort, State.driveSof_setPort]
  | none =>
    dsimp only
    split <;> rfl

theorem State.choose_setPort (s : State) (x : HostPort) : (s.setPort x).choose = s.choose.setPort x := by
  unfold State.choose
  rw [State.setPort_line, State.setPort_sel, State.choice_setPort]
  split <;> rfl

/-! ### Entry into FAULT -/

theorem State.withdraw_setPort (s : State) (x : HostPort) (p : Offered → Bool) :
    (s.setPort x).withdraw p = (s.withdraw p).setPort x := by
  unfold State.withdraw
  rw [State.setPort_sel]
  cases s.sel.offered with
  | none => rfl
  | some f =>
    dsimp only
    split
    · split <;> rfl
    · rfl

theorem State.raiseLosses_setPort (s : State) (x : HostPort) : (s.setPort x).raiseLosses = s.raiseLosses.setPort x := by
  unfold State.raiseLosses
  exact List.foldl_hom (fun t : State => t.setPort x) (fun _ _ => rfl)

theorem State.voidIntents_setPort (s : State) (x : HostPort) : (s.setPort x).voidIntents = s.voidIntents.setPort x := by
  unfold State.voidIntents
  rw [State.withdraw_setPort, State.raiseLosses_setPort]
  rfl

theorem State.dropTransfers_setPort (s : State) (x : HostPort) :
    (s.setPort x).dropTransfers = s.dropTransfers.setPort x := by
  unfold State.dropTransfers
  rw [State.withdraw_setPort]
  rfl

theorem State.enterFault_setPort (s : State) (x : HostPort) (cause : FaultCause) :
    (s.setPort x).enterFault cause = (s.enterFault cause).setPort x := by
  have habort : (s.setPort x).abortFrame = s.abortFrame.setPort x := rfl
  unfold State.enterFault
  rw [habort, State.voidIntents_setPort, State.dropTransfers_setPort]
  rfl

/-! ### A taken command at its check byte -/

/-- The check of the model is the one of the statements: the sum of all bytes is 0 (R170). -/
theorem checkHolds_iff (code : Byte) (params : List Byte) (check : Byte) :
    checkHolds code params check = true ↔ (code :: params).sum + check = 0 := by
  simp [checkHolds, List.sum_eq_foldl, List.foldl_cons]

/-- A taken command whose owner does not read the host port: its answer is the owner's, given in the state before the
row (R170, R173). -/
theorem State.commandRow_eq_answered {s : State} {code check : Byte} {params : List Byte} {c : HostCommand}
    (htakes : s.Takes code params check) (hcommand : commandOf code params = some c)
    (hport : ∀ x, (s.setPort x).take c = ((s.take c).1, (s.take c).2.1, (s.take c).2.2.setPort x)) :
    s.unlessReset (fun s => s.commandRow code params check) =
      (s.take c).2.2.answered (code :: params) (statusCodeByte (s.take c).1 :: (s.take c).2.1) := by
  obtain ⟨⟨hreset, hphase, hbuffer⟩, hsum⟩ := htakes
  have hcheck : checkHolds code params check = true := (checkHolds_iff code params check).mpr hsum
  have hrow : s.port.phase = .command ∧ s.port.buffer.isPrefixOf (code :: params) = true :=
    ⟨hphase, List.isPrefixOf_iff_prefix.mpr hbuffer⟩
  calc s.unlessReset (fun s => s.commandRow code params check)
      = (s.fillBuffer (code :: params)).answer c := by
        simp [State.unlessReset, State.commandRow, State.checkByte, hreset, hrow, hcheck, hcommand]
    _ = _ := by
        rw [State.answer, State.fillBuffer, hport]
        rfl

/-! ### ENTER (R84) -/

theorem State.enterCommand_of_not_detached {s : State} (h : s.ctrl.station ≠ .detached) :
    s.enterCommand = (.wrongState, s) := by
  simp [State.enterCommand, h]

theorem State.enterCommand_of_stuck {s : State} (h : s.ctrl.station = .detached) (hstuck : 32 ≤ s.line.dominant) :
    s.enterCommand =
      (.ok,
        (s.setCtrl { s.ctrl with station := .seeking, attempts := 1, control := some .join }).enterFault .lineStuck) := by
  simp [State.enterCommand, h, hstuck]

theorem State.enterCommand_of_not_stuck {s : State} (h : s.ctrl.station = .detached)
    (hstuck : ¬ 32 ≤ s.line.dominant) :
    s.enterCommand =
      (.ok, (s.setCtrl { s.ctrl with station := .seeking, attempts := 1, control := some .join }).choose) := by
  simp [State.enterCommand, h, hstuck]

theorem State.enterCommand_setPort (s : State) (x : HostPort) :
    (s.setPort x).enterCommand = (s.enterCommand.1, s.enterCommand.2.setPort x) := by
  by_cases hstation : s.ctrl.station = .detached
  · by_cases hstuck : 32 ≤ s.line.dominant
    · rw [State.enterCommand_of_stuck hstation hstuck, State.enterCommand_of_stuck (s := s.setPort x) hstation hstuck]
      exact congrArg _ (State.enterFault_setPort (s.setCtrl _) x .lineStuck)
    · rw [State.enterCommand_of_not_stuck hstation hstuck,
        State.enterCommand_of_not_stuck (s := s.setPort x) hstation hstuck]
      exact congrArg _ (State.choose_setPort (s.setCtrl _) x)
  · rw [State.enterCommand_of_not_detached hstation,
      State.enterCommand_of_not_detached (s := s.setPort x) hstation]

/-- ENTER, taken at its check byte: the answer of the Station Controller in the state before the row. -/
theorem exec_enter_of_takes {s : State} {check : Byte} (htakes : s.Takes 0x03 [] check) :
    exec (.enter check) s =
      .next (s.enterCommand.2.answered [0x03] [statusCodeByte s.enterCommand.1]) := by
  have htake (x : HostPort) : (s.setPort x).take .enter =
      ((s.take .enter).1, (s.take .enter).2.1, (s.take .enter).2.2.setPort x) := by
    simp only [State.take, State.enterCommand_setPort]
  exact congrArg Host.Outcome.next (State.commandRow_eq_answered htakes rfl htake)

/-- Settles O14: by the station state and, in DETACHED, by the dominant count of the line. -/
theorem enterStartsSeeking : Obligations.EnterStartsSeeking := by
  intro check s htakes seeking
  rw [exec_enter_of_takes htakes]
  by_cases hstation : s.ctrl.station = .detached
  · rw [if_neg (not_not_intro hstation)]
    by_cases hstuck : 32 ≤ s.line.dominant
    · rw [if_pos hstuck, State.enterCommand_of_stuck hstation hstuck]
      rfl
    · rw [if_neg hstuck, State.enterCommand_of_not_stuck hstation hstuck]
      rfl
  · rw [if_pos hstation, State.enterCommand_of_not_detached hstation]
    rfl

end Sys2Proof.Machine
end

section
/-! SUPPORT. The lock commands ACQUIRE and RELEASE: each answer of the Intent Unit with the state it leaves, and the
choice of R126 that follows a taken one. -/

namespace Sys2Proof.Machine

/-! ### The bytes of a lock command -/

theorem lockOf_of_lt {b : Byte} (h : b.toNat < 64) : lockOf b = some ⟨b.toNat, h⟩ := dif_pos h

theorem lockOf_of_not_lt {b : Byte} (h : ¬ b.toNat < 64) : lockOf b = none := dif_neg h

/-- Bit 0 of a defined mode byte is the mode and bit 7 the TRY flag (Table 12-4). -/
theorem modeOf_of_defined {b : Byte} (h : b = 0x00 ∨ b = 0x01 ∨ b = 0x80 ∨ b = 0x81) :
    modeOf b = some (if b.getLsbD 0 then .exclusive else .shared, b.getLsbD 7) := by
  rcases h with rfl | rfl | rfl | rfl <;> rfl

theorem modeOf_of_undefined {b : Byte} (h : b ≠ 0x00 ∧ b ≠ 0x01 ∧ b ≠ 0x80 ∧ b ≠ 0x81) : modeOf b = none := by
  obtain ⟨h00, h01, h80, h81⟩ := h
  rw [modeOf, if_neg h00, if_neg h01, if_neg h80, if_neg h81]

theorem wordOf_hiByte_loByte (w : Word16) : wordOf (hiByte w) (loByte w) = w :=
  (BitVec.extractLsb'_append_extractLsb'_eq_extractLsb' rfl).trans BitVec.extractLsb'_eq_self

/-! ### The choice after a taken command -/

theorem thenChoose_setPort (r : StatusCode × State) (x : HostPort) :
    thenChoose (r.1, r.2.setPort x) = ((thenChoose r).1, (thenChoose r).2.setPort x) := by
  unfold thenChoose
  split
  · rw [State.choose_setPort]
  · rfl

/-! ### ACQUIRE (R143) -/

section
variable {s : State} {lock mode : Byte} {limit : Word16}

theorem State.acquireCommand_of_not_active (h : s.ctrl.station ≠ .active) :
    s.acquireCommand lock mode limit = (.wrongState, s) := if_pos h

theorem State.acquireCommand_of_leavePending (h : s.ctrl.leavePending = true) :
    s.acquireCommand lock mode limit = (.wrongState, s) := by
  simp [State.acquireCommand, h]

theorem State.acquireCommand_of_out_of_range (hactive : s.ctrl.station = .active) (hleave : s.ctrl.leavePending = false)
    (hrange : lockOf lock = none ∨ modeOf mode = none) : s.acquireCommand lock mode limit = (.range, s) := by
  unfold State.acquireCommand
  rw [if_neg (not_not_intro hactive), hleave]
  rcases hrange with hlock | hmode
  · rw [hlock]
    rfl
  · rw [hmode]
    cases lockOf lock <;> rfl

/-- In range, the answer turns on the intent of the lock and on the request queue. -/
theorem State.acquireCommand_of_in_range {l : LockId} {m : Mode} {try_ : Bool} (hactive : s.ctrl.station = .active)
    (hleave : s.ctrl.leavePending = false) (hlock : lockOf lock = some l) (hmode : modeOf mode = some (m, try_)) :
    s.acquireCommand lock mode limit =
      if (s.intent l).state ≠ .idle then (.duplicate, s)
      else if 8 ≤ s.intents.queue.length then (.queueFull, s)
      else
        (.ok,
          { s with
            intents :=
              { s.intents with
                records := setEntry s.intents.records l
                  { IntentRecord.idle with
                    state := .requesting, mode := some m, tryFlag := some try_, waitLimit := some limit }
                queue := s.intents.queue ++ [QueueEntry.acquire l m try_]
                timers := if limit = 0 then s.intents.timers else setEntry s.intents.timers l .running } }) := by
  unfold State.acquireCommand
  simp only [hactive, hleave, hlock, hmode, State.queueFull, decide_eq_true_eq]
  by_cases hlimit : limit = 0
  · simp only [hlimit, if_true]
    rfl
  · simp only [hlimit, if_false]
    rfl

theorem State.acquireCommand_setPort (s : State) (lock mode : Byte) (limit : Word16) (x : HostPort) :
    (s.setPort x).acquireCommand lock mode limit =
      ((s.acquireCommand lock mode limit).1, (s.acquireCommand lock mode limit).2.setPort x) := by
  by_cases hactive : s.ctrl.station = .active
  · cases hleave : s.ctrl.leavePending with
    | true => rw [acquireCommand_of_leavePending hleave, acquireCommand_of_leavePending (s := s.setPort x) hleave]
    | false =>
      cases hlock : lockOf lock with
      | none =>
        rw [acquireCommand_of_out_of_range hactive hleave (.inl hlock),
          acquireCommand_of_out_of_range (s := s.setPort x) hactive hleave (.inl hlock)]
      | some l =>
        cases hmode : modeOf mode with
        | none =>
          rw [acquireCommand_of_out_of_range hactive hleave (.inr hmode),
            acquireCommand_of_out_of_range (s := s.setPort x) hactive hleave (.inr hmode)]
        | some asked =>
          rw [acquireCommand_of_in_range hactive hleave hlock hmode,
            acquireCommand_of_in_range (s := s.setPort x) hactive hleave hlock hmode]
          have hintent : (s.setPort x).intent l = s.intent l := rfl
          rw [hintent, State.setPort_intents]
          split
          · rfl
          · split <;> rfl
  · rw [acquireCommand_of_not_active hactive, acquireCommand_of_not_active (s := s.setPort x) hactive]

/-- ACQUIRE by either code: the answer of the Intent Unit in the state before the row, with the choice after a taken
one. -/
theorem State.acquireRow_of_takes {code check : Byte} {params : List Byte} (htakes : s.Takes code params check)
    (hcommand : commandOf code params = some (.acquire lock mode limit)) :
    s.unlessReset (fun s => s.commandRow code params check) =
      (thenChoose (s.acquireCommand lock mode limit)).2.answered (code :: params)
        [statusCodeByte (thenChoose (s.acquireCommand lock mode limit)).1] := by
  have htake (x : HostPort) : (s.setPort x).take (.acquire lock mode limit) =
      ((s.take (.acquire lock mode limit)).1, (s.take (.acquire lock mode limit)).2.1,
        (s.take (.acquire lock mode limit)).2.2.setPort x) := by
    simp only [State.take, State.acquireCommand_setPort, thenChoose_setPort]
  exact State.commandRow_eq_answered htakes hcommand htake

end

/-- Settles O17: both codes are the one command, whose first refusal that holds is its answer; a taken one is followed
by the choice. -/
theorem acquireIsAnsweredInOrder : Obligations.AcquireIsAnsweredInOrder := by
  intro lock mode check limit s answer
  have hanswer (cmd : List Byte) (limit : Word16) :
      (thenChoose (s.acquireCommand lock mode limit)).2.answered cmd
        [statusCodeByte (thenChoose (s.acquireCommand lock mode limit)).1] = answer cmd limit := by
    dsimp only [answer]
    by_cases hactive : s.ctrl.station = .active
    · rw [if_neg (not_not_intro hactive)]
      cases hleave : s.ctrl.leavePending with
      | true =>
        rw [State.acquireCommand_of_leavePending hleave]
        rfl
      | false =>
        rw [if_neg Bool.false_ne_true]
        by_cases hlock : lock.toNat < 64
        · rw [dif_pos hlock]
          by_cases hmode : mode ≠ 0x00 ∧ mode ≠ 0x01 ∧ mode ≠ 0x80 ∧ mode ≠ 0x81
          · rw [if_pos hmode, State.acquireCommand_of_out_of_range hactive hleave (.inr (modeOf_of_undefined hmode))]
            rfl
          · have hdefined : mode = 0x00 ∨ mode = 0x01 ∨ mode = 0x80 ∨ mode = 0x81 := by
              simpa only [ne_eq, not_and_or, not_not] using hmode
            rw [if_neg hmode, State.acquireCommand_of_in_range hactive hleave (lockOf_of_lt hlock)
              (modeOf_of_defined hdefined)]
            split
            · rfl
            · split <;> rfl
        · rw [dif_neg hlock, State.acquireCommand_of_out_of_range hactive hleave (.inl (lockOf_of_not_lt hlock))]
          rfl
    · rw [if_pos hactive, State.acquireCommand_of_not_active hactive]
      rfl
  constructor
  · intro htakes
    exact congrArg Host.Outcome.next ((State.acquireRow_of_takes htakes rfl).trans (hanswer _ 0))
  · intro htakes
    have hcommand : commandOf 0x15 [lock, mode, hiByte limit, loByte limit] = some (.acquire lock mode limit) := by
      simp [commandOf, wordOf_hiByte_loByte]
    exact congrArg Host.Outcome.next ((State.acquireRow_of_takes htakes hcommand).trans (hanswer _ limit))

/-! ### RELEASE (R144) -/

section
variable {s : State} {lock : Byte}

theorem State.releaseCommand_of_not_active (h : s.ctrl.station ≠ .active) :
    s.releaseCommand lock = (.wrongState, s) := if_pos h

theorem State.releaseCommand_of_out_of_range (hactive : s.ctrl.station = .active) (hlock : lockOf lock = none) :
    s.releaseCommand lock = (.range, s) := by
  simp [State.releaseCommand, hactive, hlock]

/-- In range, the answer turns on the intent of the lock and on the request queue. -/
theorem State.releaseCommand_of_in_range {l : LockId} (hactive : s.ctrl.station = .active)
    (hlock : lockOf lock = some l) :
    s.releaseCommand lock =
      if (s.intent l).state ≠ .held then (.notHolder, s)
      else if 8 ≤ s.intents.queue.length then (.queueFull, s)
      else
        (.ok,
          { s with
            intents :=
              { s.intents with
                records := setEntry s.intents.records l { s.intent l with state := .releasing }
                queue := s.intents.queue ++ [QueueEntry.release l] } }) := by
  unfold State.releaseCommand
  simp only [hactive, hlock, State.queueFull, decide_eq_true_eq]
  rfl

theorem State.releaseCommand_setPort (s : State) (lock : Byte) (x : HostPort) :
    (s.setPort x).releaseCommand lock = ((s.releaseCommand lock).1, (s.releaseCommand lock).2.setPort x) := by
  by_cases hactive : s.ctrl.station = .active
  · cases hlock : lockOf lock with
    | none =>
      rw [releaseCommand_of_out_of_range hactive hlock, releaseCommand_of_out_of_range (s := s.setPort x) hactive hlock]
    | some l =>
      have hintent : (s.setPort x).intent l = s.intent l := rfl
      rw [releaseCommand_of_in_range hactive hlock, releaseCommand_of_in_range (s := s.setPort x) hactive hlock,
        hintent, State.setPort_intents]
      split
      · rfl
      · split <;> rfl
  · rw [releaseCommand_of_not_active hactive, releaseCommand_of_not_active (s := s.setPort x) hactive]

/-- RELEASE, taken at its check byte: the answer of the Intent Unit in the state before the row, with the choice after a
taken one. -/
theorem exec_release_of_takes {check : Byte} (htakes : s.Takes 0x16 [lock] check) :
    exec (.release lock check) s =
      .next ((thenChoose (s.releaseCommand lock)).2.answered [0x16, lock]
        [statusCodeByte (thenChoose (s.releaseCommand lock)).1]) := by
  have htake (x : HostPort) : (s.setPort x).take (.release lock) =
      ((s.take (.release lock)).1, (s.take (.release lock)).2.1, (s.take (.release lock)).2.2.setPort x) := by
    simp only [State.take, State.releaseCommand_setPort, thenChoose_setPort]
  exact congrArg Host.Outcome.next (State.commandRow_eq_answered htakes rfl htake)

end

/-- Settles O18: the first refusal that holds is the answer; a taken RELEASE is followed by the choice. -/
theorem releaseIsAnsweredInOrder : Obligations.ReleaseIsAnsweredInOrder := by
  intro lock check s htakes
  rw [exec_release_of_takes htakes]
  by_cases hactive : s.ctrl.station = .active
  · rw [if_neg (not_not_intro hactive)]
    by_cases hlock : lock.toNat < 64
    · rw [dif_pos hlock, State.releaseCommand_of_in_range hactive (lockOf_of_lt hlock)]
      dsimp only
      split
      · rfl
      · split <;> rfl
    · rw [dif_neg hlock, State.releaseCommand_of_out_of_range hactive (lockOf_of_not_lt hlock)]
      rfl
  · rw [if_pos hactive, State.releaseCommand_of_not_active hactive]
    rfl

end Sys2Proof.Machine
end

section
/-! SUPPORT. Placing an event in the event queue: the append under a new key, and the overwrite under a present one. -/

namespace Sys2Proof.Machine

section
variable {q : EventQueue} {ev : Event}

/-! ### One entry, one read record -/

theorem overwrite_of_key_eq {r : EventRecord} (h : r.key = ev.key) :
    overwrite ev r = { event := ev, merged := oneMore r.merged } := if_pos h

theorem overwrite_of_key_ne {r : EventRecord} (h : r.key ≠ ev.key) : overwrite ev r = r := if_neg h

/-- The entries of other keys stay as they are (R160). -/
theorem map_overwrite_of_forall_key_ne {l : List EventRecord} (h : ∀ r ∈ l, r.key ≠ ev.key) :
    l.map (overwrite ev) = l :=
  (List.map_congr_left fun r hr => overwrite_of_key_ne (h r hr)).trans l.map_id'

/-- The one entry under the event's key is overwritten in its place (R160). -/
theorem map_overwrite_append_cons {front back : List EventRecord} {r : EventRecord} (hkey : r.key = ev.key)
    (hother : ∀ x ∈ front ++ back, x.key ≠ ev.key) :
    (front ++ r :: back).map (overwrite ev) = front ++ { event := ev, merged := oneMore r.merged } :: back := by
  obtain ⟨hfront, hback⟩ := List.forall_mem_append.mp hother
  rw [List.map_append, List.map_cons, map_overwrite_of_forall_key_ne hfront, overwrite_of_key_eq hkey,
    map_overwrite_of_forall_key_ne hback]

/-! ### The queue -/

theorem EventQueue.place_of_key_absent (h : ∀ r ∈ q.entries, r.key ≠ ev.key) :
    q.place ev = { q with entries := q.entries ++ [{ event := ev, merged := 1 }], attn := true } :=
  if_neg (by simpa using h)

theorem EventQueue.place_of_key_present (h : ∃ r ∈ q.entries, r.key = ev.key) :
    q.place ev = { q with entries := q.entries.map (overwrite ev), reading := q.reading.map (noteChange ev) } :=
  if_pos (by simpa using h)

end

/-- Settles O24: by whether the queue holds an entry under the event's key. The limit of `oneMore` is 15, so what
`noteChange` does to the read record is the change the statement writes out. -/
theorem eventsMergeUnderTheirKey : Obligations.EventsMergeUnderTheirKey := by
  intro ev q
  refine ⟨EventQueue.place_of_key_absent, fun front r back hentries hkey hother => ?_⟩
  have hpresent : ∃ x ∈ q.entries, x.key = ev.key := ⟨r, by simp [hentries], hkey⟩
  rw [EventQueue.place_of_key_present hpresent, hentries, map_overwrite_append_cons hkey hother]
  rfl

end Sys2Proof.Machine
end

section
/-! SUPPORT. The host commands STATUS and CONFIGURE: the eleven bytes of the one, and each answer of the other with the
state it leaves. -/

namespace Sys2Proof.Machine

/-! ### The bytes of a number -/

theorem hiByte_eq_ofNat (w : Word16) : hiByte w = BitVec.ofNat 8 (w.toNat / 256) := by
  apply BitVec.eq_of_toNat_eq
  simp [hiByte, Nat.shiftRight_eq_div_pow]

theorem loByte_eq_ofNat (w : Word16) : loByte w = BitVec.ofNat 8 (w.toNat % 256) := by
  apply BitVec.eq_of_toNat_eq
  simp [loByte]

/-! ### STATUS (R176, Table 12-10) -/

theorem rateBits_toNat_lt (rate : BitRate) : (rateBits rate).toNat < 2 ^ 4 := by
  cases rate <;> decide

/-- The id in the high four bits and the rate in the low four do not overlap, so their union is their sum. -/
theorem stationByte_shiftLeft_or_rateBits (id : StationId) (rate : BitRate) :
    stationByte id <<< 4 ||| rateBits rate = BitVec.ofNat 8 (16 * id.val + (rateBits rate).toNat) := by
  have hid : id.val < 16 := id.isLt
  have hrate : (rateBits rate).toNat < 2 ^ 4 := rateBits_toNat_lt rate
  have hshift : (stationByte id <<< 4).toNat = id.val <<< 4 := by
    simp only [stationByte, BitVec.toNat_shiftLeft, BitVec.toNat_ofNat, Nat.shiftLeft_eq]
    omega
  apply BitVec.eq_of_toNat_eq
  rw [BitVec.toNat_or, hshift, ← Nat.shiftLeft_add_eq_or_of_lt hrate, BitVec.toNat_ofNat, Nat.shiftLeft_eq]
  omega

/-- The member count of STATUS is the number of ACTIVE entries of a COMPLETE table, and 0 without one (R67). -/
theorem State.countByte_memberCount (s : State) :
    countByte s.memberCount =
      if s.table.validity = .complete then countByte (activeCount s.table.members) else 0 :=
  apply_ite countByte _ _ _

/-- STATUS, taken at its check byte: it reads no port register, and the state before the row stands (R176). -/
theorem exec_status_of_takes {s : State} {check : Byte} (htakes : s.Takes 0x01 [] check) :
    exec (.status check) s = .next (s.answered [0x01] (0x00 :: s.statusBytes)) :=
  congrArg Host.Outcome.next (State.commandRow_eq_answered htakes rfl fun _ => rfl)

/-- Settles O12: by whether there is an epoch. The byte of the id and the rate, the member count and the two bytes of the
epoch take a lemma each; the statement writes out the others as the model computes them. -/
theorem statusReportsTheStation : Obligations.StatusReportsTheStation := by
  intro check s htakes
  have hrate : (rateBits s.line.rate).toNat = match s.line.rate with
      | .k125 => 0 | .k250 => 1 | .k500 => 2 | .k1000 => 3 := by
    cases s.line.rate <;> rfl
  rw [exec_status_of_takes htakes, State.statusBytes, stationByte_shiftLeft_or_rateBits, hrate,
    State.countByte_memberCount]
  cases s.commit.epoch with
  | none => rfl
  | some e =>
    rw [Option.getD_some, bytesOf, hiByte_eq_ofNat, loByte_eq_ofNat]
    rfl

/-! ### CONFIGURE (R80, R177) -/

section
variable {s : State} {p k jmul : Byte}

theorem State.configureCommand_of_not_detached (h : s.ctrl.station ≠ .detached) :
    s.configureCommand p k jmul = (.wrongState, s) := if_pos h

theorem State.configureCommand_of_detached (h : s.ctrl.station = .detached) :
    s.configureCommand p k jmul =
      if p.toNat < 2 ∨ 250 < p.toNat ∨ k.toNat < 3 ∨ 15 < k.toNat ∨ jmul.toNat < 16 then (.range, s)
      else (.ok, { s with ctrl := { s.ctrl with p, k, jmul } }) := by
  unfold State.configureCommand
  rw [if_neg (not_not_intro h)]
  split <;> split
  · omega
  · rfl
  · rfl
  · omega

theorem State.configureCommand_setPort (s : State) (p k jmul : Byte) (x : HostPort) :
    (s.setPort x).configureCommand p k jmul =
      ((s.configureCommand p k jmul).1, (s.configureCommand p k jmul).2.setPort x) := by
  by_cases hstation : s.ctrl.station = .detached
  · rw [configureCommand_of_detached hstation, configureCommand_of_detached (s := s.setPort x) hstation]
    split <;> rfl
  · rw [configureCommand_of_not_detached hstation, configureCommand_of_not_detached (s := s.setPort x) hstation]

/-- CONFIGURE, taken at its check byte: the answer of the Station Controller in the state before the row, and the three
values that are then in force. -/
theorem exec_configure_of_takes {check : Byte} (htakes : s.Takes 0x02 [p, k, jmul] check) :
    exec (.configure p k jmul check) s =
      .next ((s.configureCommand p k jmul).2.answered [0x02, p, k, jmul]
        (statusCodeByte (s.configureCommand p k jmul).1 :: (s.configureCommand p k jmul).2.configBytes)) := by
  have htake (x : HostPort) : (s.setPort x).take (.configure p k jmul) =
      ((s.take (.configure p k jmul)).1, (s.take (.configure p k jmul)).2.1,
        (s.take (.configure p k jmul)).2.2.setPort x) := by
    simp only [State.take, State.configureCommand_setPort, State.configBytes, State.setPort_ctrl]
  exact congrArg Host.Outcome.next (State.commandRow_eq_answered htakes rfl htake)

end

/-- Settles O13: by the station state and, in DETACHED, by the ranges of the three values. -/
theorem configureSetsAllThreeOrNone : Obligations.ConfigureSetsAllThreeOrNone := by
  intro p k jmul check s htakes
  rw [exec_configure_of_takes htakes]
  by_cases hstation : s.ctrl.station = .detached
  · rw [if_neg (not_not_intro hstation), State.configureCommand_of_detached hstation]
    split <;> rfl
  · rw [if_pos hstation, State.configureCommand_of_not_detached hstation]
    rfl

end Sys2Proof.Machine
end

section
/-! SUPPORT. What each row of the table does at most: a row of the line or of a timer is a move inside the station; a row
of the host port is one too but for the port itself, the configured values, and the reading of the event queue. -/

namespace Sys2Proof.Machine

/-! ### The rows of the host port -/

/-- What the host's reading makes of the event queue, beside the events placed in it (R163, R164, R174). -/
inductive EventQueue.Read (q : EventQueue) : EventQueue → Prop
  | same : q.Read q
  | captured (head : EventRecord) (rest : List EventRecord) : q.entries = head :: rest → q.Read (q.capture head)
  | completed : q.Read q.complete
  | cutShort : q.Read q.cutShort

/-- What a row of the host port leaves alone, but for the port, the level of nCS and the configured values; and how far
it takes the counts and the event queue. -/
structure PortRow (s t : State) : Prop where
  inReset  : t.inReset = s.inReset
  pending  : t.pending = s.pending
  id       : t.ctrl.id = s.ctrl.id
  rate     : t.line.rate = s.line.rate
  events   : ∃ evs : List Event, (evs.foldl EventQueue.place s.events).Read t.events
  queue    : t.intents.queue.length ≤ max s.intents.queue.length Config.queueCapacity
  log      : t.transfer.log.length ≤ max s.transfer.log.length Config.logCapacity
  discards : t.transfer.discards ≤ max s.transfer.discards 65535
  failures : t.commit.failures ≤ max s.commit.failures Config.failureLimit
  attempts : t.ctrl.attempts ≤ max s.ctrl.attempts Config.attemptLimit
  dominant : t.line.dominant ≤ max s.line.dominant Config.stuckLimit

/-- The configured values are as they were (R80). -/
def State.SameConfig (s t : State) : Prop := t.ctrl.p = s.ctrl.p ∧ t.ctrl.k = s.ctrl.k ∧ t.ctrl.jmul = s.ctrl.jmul

section
variable {s t : State}

theorem Moves.sameConfig (h : Moves s t) : s.SameConfig t := ⟨h.p, h.k, h.jmul⟩

theorem Moves.portRow (h : Moves s t) : PortRow s t where
  inReset := h.inReset
  pending := h.pending
  id := h.id
  rate := h.rate
  events := by
    obtain ⟨evs, hevs⟩ := h.events
    exact ⟨evs, hevs ▸ .same⟩
  queue := h.queue
  log := h.log
  discards := h.discards
  failures := h.failures
  attempts := h.attempts
  dominant := h.dominant

theorem PortRow.setPort {x y : HostPort} (h : PortRow (s.setPort x) t) : PortRow s (t.setPort y) := { h with }

theorem take_queryLock_state (s : State) (lock : Byte) : (s.take (.queryLock lock)).2.2 = s := by
  unfold State.take
  dsimp only
  split
  · rfl
  · split <;> rfl

theorem take_queryMembers_state (s : State) : (s.take .queryMembers).2.2 = s := by
  unfold State.take
  dsimp only
  split <;> rfl

/-- What a taken command can do: a move inside the station, the setting of CONFIGURE's values, or READ_EVENT's capture
of the head entry. -/
theorem take_cases (s : State) (c : HostCommand) :
    Moves s (s.take c).2.2 ∨
      (∃ p k jmul, c = .configure p k jmul ∧ (s.take c).2.2 = s.setCtrl { s.ctrl with p, k, jmul }) ∨
      ∃ head rest, s.events.entries = head :: rest ∧ (s.take c).2.2 = s.setEvents (s.events.capture head) := by
  cases c with
  | status => exact .inl (Moves.refl s)
  | configure p k jmul =>
    by_cases h : s.ctrl.station = .detached
    · show Moves s (s.configureCommand p k jmul).2 ∨ _ ∨ _
      rw [State.take, State.configureCommand_of_detached h]
      split
      · exact .inl (Moves.refl s)
      · exact .inr (.inl ⟨p, k, jmul, rfl, rfl⟩)
    · show Moves s (s.configureCommand p k jmul).2 ∨ _ ∨ _
      rw [State.configureCommand_of_not_detached h]
      exact .inl (Moves.refl s)
  | enter => exact .inl moves_enterCommand
  | leave => exact .inl (moves_thenChoose moves_leaveCommand)
  | detach => exact .inl moves_detachCommand
  | acquire lock mode limit => exact .inl (moves_thenChoose (moves_acquireCommand lock mode limit))
  | release lock => exact .inl (moves_thenChoose (moves_releaseCommand lock))
  | cancel lock => exact .inl (moves_thenChoose (moves_cancelCommand lock))
  | queryLock lock => exact .inl ((take_queryLock_state s lock).symm ▸ Moves.refl s)
  | queryMembers => exact .inl ((take_queryMembers_state s).symm ▸ Moves.refl s)
  | readEvent =>
    unfold State.take
    cases h : s.events.entries with
    | nil => exact .inl (Moves.refl s)
    | cons head rest => exact .inr (.inr ⟨head, rest, rfl, rfl⟩)

theorem portRow_take (s : State) (c : HostCommand) : PortRow s (s.take c).2.2 := by
  obtain h | ⟨p, k, jmul, -, h⟩ | ⟨head, rest, hentries, h⟩ := take_cases s c
  · exact h.portRow
  · rw [h]
    exact { (Moves.refl s).portRow with }
  · rw [h]
    exact { (Moves.refl s).portRow with events := ⟨[], .captured head rest hentries⟩ }

theorem sameConfig_take (s : State) {c : HostCommand} (hc : ∀ p k jmul, c ≠ .configure p k jmul) :
    s.SameConfig (s.take c).2.2 := by
  obtain h | ⟨p, k, jmul, h, -⟩ | ⟨head, rest, -, h⟩ := take_cases s c
  · exact h.sameConfig
  · exact absurd h (hc p k jmul)
  · rw [h]
    exact ⟨rfl, rfl, rfl⟩

/-- No taken command reads or changes the level of nCS. -/
theorem take_ncsLow (s : State) (c : HostCommand) : (s.take c).2.2.ncsLow = s.ncsLow := by
  obtain h | ⟨p, k, jmul, -, h⟩ | ⟨head, rest, -, h⟩ := take_cases s c
  · exact h.ncsLow
  · rw [h]
    rfl
  · rw [h]
    rfl

/-! ### Framing -/

/-- What a row keeps besides: the configured values unless it configures, the level of nCS, and the count of the bytes
shifted out within the response (R169). -/
structure PortKeeps (configures : Prop) (s t : State) : Prop where
  row     : PortRow s t
  config  : configures ∨ s.SameConfig t
  ncsLow  : t.ncsLow = s.ncsLow
  shifted : s.port.shifted ≤ s.port.response.length → t.port.shifted ≤ t.port.response.length

theorem Moves.portKeeps (h : Moves s t) (configures : Prop) : PortKeeps configures s t where
  row := h.portRow
  config := .inr h.sameConfig
  ncsLow := h.ncsLow
  shifted := by rw [h.port]; exact fun hs => hs

theorem PortKeeps.refl (configures : Prop) (s : State) : PortKeeps configures s s := (Moves.refl s).portKeeps _

theorem PortKeeps.unlessReset {configures : Prop} {f : State → State} (h : PortKeeps configures s (f s)) :
    PortKeeps configures s (s.unlessReset f) := by
  unfold State.unlessReset
  split
  · exact PortKeeps.refl _ s
  · exact h

/-- A change of the port alone. -/
theorem portKeeps_setPort {configures : Prop} {x : HostPort}
    (hx : s.port.shifted ≤ s.port.response.length → x.shifted ≤ x.response.length) :
    PortKeeps configures s (s.setPort x) where
  row := (PortRow.setPort (x := s.port) (Moves.refl s).portRow)
  config := .inr ⟨rfl, rfl, rfl⟩
  ncsLow := rfl
  shifted := hx

theorem portKeeps_fillBuffer (configures : Prop) (bytes : List Byte) :
    PortKeeps configures s (s.fillBuffer bytes) := portKeeps_setPort id

theorem portKeeps_respond (configures : Prop) (bytes : List Byte) : PortKeeps configures s (s.respond bytes) :=
  portKeeps_setPort fun _ => Nat.zero_le _

/-- The parameters of CONFIGURE stand with its code only (Table 12-8). -/
theorem commandOf_eq_configure {code p k jmul : Byte} {params : List Byte}
    (h : commandOf code params = some (.configure p k jmul)) : code :: params = [0x02, p, k, jmul] := by
  unfold commandOf at h
  split at h <;> (repeat' split at h) <;> simp_all

theorem portKeeps_checkByte (s : State) (code : Byte) (params : List Byte) (check : Byte) :
    PortKeeps (∃ p k jmul, code :: params = [0x02, p, k, jmul]) s (s.checkByte code params check) := by
  unfold State.checkByte
  split
  · split
    · rename_i c hc
      have config : (∃ p k jmul, code :: params = [0x02, p, k, jmul]) ∨ s.SameConfig (s.take c).2.2 := by
        by_cases h : ∃ p k jmul, c = .configure p k jmul
        · obtain ⟨p, k, jmul, rfl⟩ := h
          exact .inl ⟨p, k, jmul, commandOf_eq_configure hc⟩
        · exact .inr (sameConfig_take s fun p k jmul e => h ⟨p, k, jmul, e⟩)
      exact
        { row := PortRow.setPort (x := s.port) (portRow_take s c)
          config := config
          ncsLow := take_ncsLow s c
          shifted := fun _ => Nat.zero_le _ }
    · exact PortKeeps.refl _ s
  · exact portKeeps_respond _ _

theorem portKeeps_commandRow (s : State) (code : Byte) (params : List Byte) (check : Byte) :
    PortKeeps (∃ p k jmul, code :: params = [0x02, p, k, jmul]) s (s.commandRow code params check) := by
  unfold State.commandRow
  split
  · obtain ⟨row, config, ncsLow, shifted⟩ :=
      portKeeps_checkByte (s.fillBuffer (code :: params)) code params check
    exact
      { row := PortRow.setPort (y := ((s.fillBuffer (code :: params)).checkByte code params check).port) row
        config := config
        ncsLow := ncsLow
        shifted := shifted }
  · exact PortKeeps.refl _ s

theorem portKeeps_finishResponse (configures : Prop) : PortKeeps configures s s.finishResponse where
  row := { (Moves.refl s).portRow with events := ⟨[], .completed⟩ }
  config := .inr ⟨rfl, rfl, rfl⟩
  ncsLow := rfl
  shifted := fun _ => Nat.le_refl _

theorem portKeeps_byteComplete (s : State) (sdi : Byte) :
    PortKeeps (s.port.phase = .command ∧ ∃ p k jmul, s.port.buffer = [0x02, p, k, jmul]) s (s.byteComplete sdi) := by
  unfold State.byteComplete
  split
  · exact PortKeeps.refl _ s
  · exact PortKeeps.refl _ s
  · rename_i hphase
    unfold State.commandByte
    split
    · split
      · exact portKeeps_fillBuffer _ _
      · exact portKeeps_setPort fun _ => Nat.zero_le _
    · rename_i code params hbuffer
      split
      · exact portKeeps_fillBuffer _ _
      · obtain ⟨row, config, ncsLow, shifted⟩ := portKeeps_checkByte s code params sdi
        exact ⟨row, config.imp_left fun h => ⟨hphase, hbuffer.symm ▸ h⟩, ncsLow, shifted⟩
  · exact portKeeps_setPort id
  · unfold State.responseByte
    split
    · rename_i h
      exact portKeeps_setPort fun _ => h.le
    · exact portKeeps_finishResponse _

/-! ### Every row -/

/-- A host command's row is its check byte, by its code and its parameters. -/
theorem exec_of_hostBytes {c : Instr} {code check : Byte} {params : List Byte}
    (h : c.hostBytes = some (code, params, check)) (s : State) :
    exec c s = .next (s.unlessReset (fun s => s.commandRow code params check)) := by
  cases c <;> cases h <;> rfl

/-- The row of CONFIGURE is the one whose command begins with its code. -/
theorem eq_configure_of_hostBytes {c : Instr} {p k jmul check : Byte}
    (h : c.hostBytes = some (0x02, [p, k, jmul], check)) : c = .configure p k jmul check := by
  cases c <;> simp_all [Instr.hostBytes]

/-- What a row that is none of the reset pins keeps. -/
structure RowKeeps (c : Instr) (s t : State) : Prop where
  row     : PortRow s t
  config  : (∃ p k jmul check, c = .configure p k jmul check ∨
      (c = .byteComplete check ∧ s.port.phase = .command ∧ s.port.buffer = [0x02, p, k, jmul])) ∨ s.SameConfig t
  ncsLow  : (c = .ncsFall ∨ c = .ncsRise) ∨ t.ncsLow = s.ncsLow
  port    : c.isPort = true ∨ t.port = s.port
  shifted : s.port.shifted ≤ s.port.response.length → t.port.shifted ≤ t.port.response.length

/-- A row of the host port, by what it may configure. -/
theorem PortKeeps.rowKeeps {c : Instr} {configures : Prop} (h : PortKeeps configures s t) (hport : c.isPort = true)
    (hc : configures → ∃ p k jmul check, c = .configure p k jmul check ∨
      (c = .byteComplete check ∧ s.port.phase = .command ∧ s.port.buffer = [0x02, p, k, jmul])) : RowKeeps c s t :=
  ⟨h.row, h.config.imp_left hc, .inr h.ncsLow, .inl hport, h.shifted⟩

theorem Moves.rowKeeps (h : Moves s t) (c : Instr) : RowKeeps c s t :=
  ⟨h.portRow, .inr h.sameConfig, .inr h.ncsLow, .inr h.port, by rw [h.port]; exact fun hs => hs⟩

theorem moves_unlessReset {f : State → State} (h : Moves s (f s)) : Moves s (s.unlessReset f) := by
  unfold State.unlessReset
  split
  · exact Moves.refl s
  · exact h

theorem rowKeeps_ncsFall (s : State) : RowKeeps .ncsFall s s.ncsFall := by
  unfold State.ncsFall
  split
  · exact (Moves.refl s).rowKeeps _
  · split
    · exact ⟨{ (Moves.refl s).portRow with }, .inr ⟨rfl, rfl, rfl⟩, .inl (.inl rfl), .inl rfl, id⟩
    · exact ⟨{ (Moves.refl s).portRow with }, .inr ⟨rfl, rfl, rfl⟩, .inl (.inl rfl), .inl rfl, fun _ => Nat.le_refl _⟩

theorem rowKeeps_ncsRise (s : State) : RowKeeps .ncsRise s s.ncsRise := by
  unfold State.ncsRise
  split
  · split
    · exact ⟨{ (Moves.refl s).portRow with }, .inr ⟨rfl, rfl, rfl⟩, .inl (.inr rfl), .inl rfl, id⟩
    · exact ⟨{ (Moves.refl s).portRow with events := ⟨[], .cutShort⟩ }, .inr ⟨rfl, rfl, rfl⟩, .inl (.inr rfl), .inl rfl,
        fun _ => Nat.le_refl _⟩
  · exact (Moves.refl s).rowKeeps _

/-- Every row but those of the reset pins completes and keeps what `RowKeeps` says. -/
theorem exec_rowKeeps (c : Instr) (s : State) (hc : c.isReset = false) :
    ∃ t, exec c s = .next t ∧ RowKeeps c s t := by
  cases hbytes : c.hostBytes with
  | some command =>
    obtain ⟨code, params, check⟩ := command
    have hport : c.isPort = true := by cases c <;> simp_all [Instr.isPort, Instr.hostBytes]
    refine ⟨_, exec_of_hostBytes hbytes s, (portKeeps_commandRow s code params check).unlessReset.rowKeeps hport ?_⟩
    rintro ⟨p, k, jmul, h⟩
    obtain ⟨rfl, rfl⟩ := List.cons.inj h
    exact ⟨p, k, jmul, check, .inl (eq_configure_of_hostBytes hbytes)⟩
  | none =>
    cases c with
    | nresetAssert => cases hc
    | nresetRelease straps => cases hc
    | powerUp straps low => cases hc
    | ncsFall => exact ⟨_, rfl, rowKeeps_ncsFall s⟩
    | ncsRise => exact ⟨_, rfl, rowKeeps_ncsRise s⟩
    | badCommand code =>
      refine ⟨_, rfl, PortKeeps.rowKeeps (PortKeeps.unlessReset ?_) rfl False.elim⟩
      unfold State.badCommand
      split
      · exact portKeeps_setPort fun _ => Nat.zero_le _
      · exact PortKeeps.refl _ s
    | readEventComplete =>
      refine ⟨_, rfl, PortKeeps.rowKeeps (PortKeeps.unlessReset ?_) rfl False.elim⟩
      unfold State.readEventComplete
      split
      · exact portKeeps_finishResponse _
      · exact PortKeeps.refl _ s
    | byteComplete sdi =>
      refine ⟨_, rfl, (portKeeps_byteComplete s sdi).unlessReset.rowKeeps rfl ?_⟩
      rintro ⟨hphase, p, k, jmul, hbuffer⟩
      exact ⟨p, k, jmul, sdi, .inr ⟨rfl, hphase, hbuffer⟩⟩
    | lineIdle => exact ⟨_, rfl, (moves_atIdle _ moves_lineIdle).rowKeeps _⟩
    | busStart => exact ⟨_, rfl, (moves_unlessReset moves_busStart).rowKeeps _⟩
    | arbitrationLost => exact ⟨_, rfl, (moves_unlessReset moves_arbitrationLost).rowKeeps _⟩
    | crcHandoff frame => exact ⟨_, rfl, (moves_unlessReset (moves_crcHandoff frame)).rowKeeps _⟩
    | errorFlag cause => exact ⟨_, rfl, (moves_unlessReset (moves_errorFlag cause)).rowKeeps _⟩
    | frameDelivery slots => exact ⟨_, rfl, (moves_atIdle _ (moves_frameDelivery slots)).rowKeeps _⟩
    | lineStuck => exact ⟨_, rfl, (moves_unlessReset moves_lineStuck).rowKeeps _⟩
    | presenceTimerExpiry => exact ⟨_, rfl, (moves_unlessReset (moves_expire _ _ moves_presenceExpired)).rowKeeps _⟩
    | silenceTimerExpiry peer =>
      exact ⟨_, rfl, (moves_unlessReset (moves_expire _ (fun s => s.silenceExpired peer) (moves_silenceExpired peer))).rowKeeps _⟩
    | firstContactExpiry => exact ⟨_, rfl, (moves_unlessReset (moves_expire _ _ moves_firstContactExpired)).rowKeeps _⟩
    | joinDeadlineExpiry => exact ⟨_, rfl, (moves_unlessReset (moves_expire _ _ moves_joinDeadlineExpired)).rowKeeps _⟩
    | waitTimerExpiry lock =>
      exact ⟨_, rfl, (moves_unlessReset (moves_expire _ (fun s => s.waitExpired lock) (moves_waitExpired lock))).rowKeeps _⟩
    | yieldWaitExpiry => exact ⟨_, rfl, (moves_unlessReset (moves_expire _ _ moves_yieldWaitOver)).rowKeeps _⟩
    | missingEdge met => exact ⟨_, rfl, (moves_unlessReset (moves_lineFault met)).rowKeeps _⟩
    | bitFaultDetected cell => exact ⟨_, rfl, (moves_unlessReset (moves_bitFaultDetected cell)).rowKeeps _⟩
    | _ => cases hbytes

/-! ### The rows of the reset pins -/

/-- The rows of the reset pins leave a state whose blocks below are those of Table 10-4. -/
structure Restarted (s t : State) : Prop where
  pending : t.pending = s.pending
  events  : t.events = .initial
  intents : t.intents = .initial
  transfer : t.transfer = .initial
  table   : t.table = .discarded
  commit  : t.commit = .initial
  port    : t.port = .initial
  attempts : t.ctrl.attempts = 0
  dominant : t.line.dominant = 0

theorem held_dominant (u : LineUnit) : u.held.dominant = 0 := by
  unfold LineUnit.held
  split <;> rfl

theorem exec_restarted (c : Instr) (s : State) (hc : c.isReset = true) : ∃ t, exec c s = .next t ∧ Restarted s t := by
  cases c with
  | nresetAssert => exact ⟨_, rfl, rfl, rfl, rfl, rfl, rfl, rfl, rfl, rfl, held_dominant s.line⟩
  | nresetRelease straps => exact ⟨_, rfl, rfl, rfl, rfl, rfl, rfl, rfl, rfl, rfl, rfl⟩
  | powerUp straps low => exact ⟨_, rfl, rfl, rfl, rfl, rfl, rfl, rfl, rfl, rfl, rfl⟩
  | _ => cases hc

end

/-! ### One step -/

/-- One step is the passing of time, or the front command's row. -/
theorem step_cases {s t : State} (h : step s = .next t) :
    t = s.timePasses ∨ ∃ c rest, s.pending = c :: rest ∧ exec c (s.setPending rest) = .next t := by
  unfold step at h
  split at h
  · exact .inl (Host.Outcome.next.inj h).symm
  · rename_i c rest hpending
    exact .inr ⟨c, rest, hpending, h⟩

/-- A run of one step more goes on from the state that the step leaves. -/
theorem run_succ {s t : State} (n : Nat) (h : step s = .next t) :
    Host.Core.run Sys2Proof.core (n + 1) s = Host.Core.run Sys2Proof.core n t := by
  have hstep : Sys2Proof.core.step s = .next t := h
  simp only [Host.Core.run, hstep]

/-- A law of the blocks that are no queue of commands is kept by every step that keeps it in each of three cases: a reset
pin's row, another row, and the passing of time, which is a move inside the station. -/
theorem step_keeps {law : State → Prop} (hpending : ∀ s q, law s → law (s.setPending q))
    (htime : ∀ s : State, law s → law s.timePasses)
    (hreset : ∀ s t, Restarted s t → law t) (hrow : ∀ c s t, law s → exec c s = .next t → RowKeeps c s t → law t)
    {s t : State} (hs : law s) (h : step s = .next t) : law t := by
  obtain rfl | ⟨c, rest, -, hexec⟩ := step_cases h
  · exact htime s hs
  · cases hc : c.isReset with
    | true =>
      obtain ⟨u, hu, restarted⟩ := exec_restarted c (s.setPending rest) hc
      obtain rfl : t = u := Host.Outcome.next.inj (hexec.symm.trans hu)
      exact hreset _ _ restarted
    | false =>
      obtain ⟨u, hu, keeps⟩ := exec_rowKeeps c (s.setPending rest) hc
      obtain rfl : t = u := Host.Outcome.next.inj (hexec.symm.trans hu)
      exact hrow c _ _ (hpending s rest hs) hexec keeps

/-- Settles O2: each row completes, a reset pin's or another, and a run of any length by induction on it. -/
theorem everyCommandCompletes : Obligations.EveryCommandCompletes := by
  have completes (c : Instr) (s : State) : ∃ t, exec c s = .next t ∧ t.pending = s.pending := by
    cases hc : c.isReset with
    | true =>
      obtain ⟨t, ht, restarted⟩ := exec_restarted c s hc
      exact ⟨t, ht, restarted.pending⟩
    | false =>
      obtain ⟨t, ht, keeps⟩ := exec_rowKeeps c s hc
      exact ⟨t, ht, keeps.row.pending⟩
  have steps (s : State) : ∃ t, step s = .next t := by
    unfold step
    split
    · exact ⟨_, rfl⟩
    · obtain ⟨t, ht, -⟩ := completes _ _
      exact ⟨t, ht⟩
  refine ⟨completes, fun s n => ?_⟩
  induction n generalizing s with
  | zero => exact ⟨s, rfl⟩
  | succ n ih =>
    obtain ⟨t, ht⟩ := steps s
    obtain ⟨u, hu⟩ := ih t
    exact ⟨u, (run_succ n ht).trans hu⟩

/-- Settles O3: what `RowKeeps` says of every row that is no reset pin's. -/
theorem rowsChangeOnlyTheirOwn : Obligations.RowsChangeOnlyTheirOwn := by
  intro c s t hc hexec
  obtain ⟨u, hu, keeps⟩ := exec_rowKeeps c s hc
  obtain rfl : t = u := Host.Outcome.next.inj (hexec.symm.trans hu)
  exact ⟨keeps.row.id, keeps.row.rate, keeps.row.inReset, keeps.config, keeps.ncsLow, keeps.port⟩

/-! ### The limits -/

theorem withinLimits_of_counts {s t : State} (hs : s.WithinLimits) (row : PortRow s t)
    (shifted : t.port.shifted ≤ t.port.response.length) : t.WithinLimits where
  queue := row.queue.trans (max_le hs.queue (Nat.le_refl _))
  log := row.log.trans (max_le hs.log (Nat.le_refl _))
  discards := row.discards.trans (max_le hs.discards (Nat.le_refl _))
  failures := row.failures.trans (max_le hs.failures (Nat.le_refl _))
  attempts := row.attempts.trans (max_le hs.attempts (Nat.le_refl _))
  dominant := row.dominant.trans (max_le hs.dominant (Nat.le_refl _))
  shifted := shifted

theorem withinLimits_of_restarted {s t : State} (h : Restarted s t) : t.WithinLimits where
  queue := by rw [h.intents]; exact Nat.zero_le _
  log := by rw [h.transfer]; exact Nat.zero_le _
  discards := by rw [h.transfer]; exact Nat.zero_le _
  failures := by rw [h.commit]; exact Nat.zero_le _
  attempts := by rw [h.attempts]; exact Nat.zero_le _
  dominant := by rw [h.dominant]; exact Nat.zero_le _
  shifted := by rw [h.port]; exact Nat.zero_le _

/-- Settles O58: no row takes a count past its limit where it was within it. -/
theorem everyStepKeepsTheLimits : Obligations.EveryStepKeepsTheLimits := by
  intro s t hs hstep
  refine step_keeps (law := State.WithinLimits) (fun _ _ h => { h with }) (fun s h => ?_)
    (fun _ _ restarted => withinLimits_of_restarted restarted)
    (fun _ _ _ h _ keeps => withinLimits_of_counts h keeps.row (keeps.shifted h.shifted)) hs hstep
  have moves : Moves s s.timePasses := moves_timePasses
  exact withinLimits_of_counts h moves.portRow (by rw [moves.port]; exact h.shifted)

/-! ### The event queue -/

@[simp] theorem overwrite_key (ev : Event) (r : EventRecord) : (overwrite ev r).key = r.key := by
  by_cases h : r.key = ev.key
  · rw [overwrite_of_key_eq h]
    exact h.symm
  · rw [overwrite_of_key_ne h]

@[simp] theorem noteChange_key (ev : Event) (rd : ReadRecord) : (noteChange ev rd).key = rd.key := by
  unfold noteChange
  split <;> rfl

theorem oneMore_bounds (n : Nat) : 1 ≤ oneMore n ∧ oneMore n ≤ 15 := by
  simp only [oneMore, Config.mergeLimit]
  omega

/-- A merge under a present key keeps every key in its place, and counts at most 15. -/
theorem EventQueue.Lawful.place_present {q : EventQueue} (h : q.Lawful) (ev : Event) :
    ({ q with entries := q.entries.map (overwrite ev), reading := q.reading.map (noteChange ev) } : EventQueue).Lawful where
  oneEach := by
    have hkeys : (q.entries.map (overwrite ev)).map EventRecord.key = q.entries.map EventRecord.key := by
      simp [Function.comp_def]
    exact hkeys.symm ▸ h.oneEach
  merged r hr := by
    obtain ⟨r₀, hr₀, rfl⟩ := List.mem_map.mp hr
    unfold overwrite
    split
    · exact oneMore_bounds _
    · exact h.merged r₀ hr₀
  attn := by simpa using h.attn
  reading rd hrd := by
    obtain ⟨rd₀, hrd₀, rfl⟩ := Option.map_eq_some_iff.mp hrd
    obtain ⟨⟨head, rest, hentries, hkey⟩, hmerges, hchanged⟩ := h.reading rd₀ hrd₀
    refine ⟨⟨overwrite ev head, rest.map (overwrite ev), by simp [hentries], by simp [hkey]⟩, ?_⟩
    unfold noteChange
    split
    · exact ⟨(oneMore_bounds _).2, fun _ => (oneMore_bounds _).1⟩
    · exact ⟨hmerges, hchanged⟩

/-- A new entry stands at the tail, under a key that no other has. -/
theorem EventQueue.Lawful.place_absent {q : EventQueue} (h : q.Lawful) {ev : Event}
    (hkey : ∀ r ∈ q.entries, r.key ≠ ev.key) :
    ({ q with entries := q.entries ++ [{ event := ev, merged := 1 }], attn := true } : EventQueue).Lawful where
  oneEach := by
    rw [List.map_append, List.nodup_append]
    refine ⟨h.oneEach, by simp, ?_⟩
    intro a ha b hb
    obtain ⟨r, hr, rfl⟩ := List.mem_map.mp ha
    obtain rfl : b = ev.key := by simpa [EventRecord.key] using hb
    exact hkey r hr
  merged r hr := by
    rcases List.mem_append.mp hr with hr | hr
    · exact h.merged r hr
    · obtain rfl : r = { event := ev, merged := 1 } := by simpa using hr
      exact ⟨Nat.le_refl 1, Nat.le_add_left 1 14⟩
  attn := by simp
  reading rd hrd := by
    obtain ⟨⟨head, rest, hentries, hhead⟩, hmerges, hchanged⟩ := h.reading rd hrd
    exact ⟨⟨head, rest ++ [{ event := ev, merged := 1 }], by simp [hentries], hhead⟩, hmerges, hchanged⟩

theorem EventQueue.Lawful.place {q : EventQueue} (h : q.Lawful) (ev : Event) : (q.place ev).Lawful := by
  by_cases hkey : ∃ r ∈ q.entries, r.key = ev.key
  · rw [EventQueue.place_of_key_present hkey]
    exact h.place_present ev
  · have habsent : ∀ r ∈ q.entries, r.key ≠ ev.key := fun r hr e => hkey ⟨r, hr, e⟩
    rw [EventQueue.place_of_key_absent habsent]
    exact h.place_absent habsent

theorem EventQueue.Lawful.places {q : EventQueue} (h : q.Lawful) (evs : List Event) :
    (evs.foldl EventQueue.place q).Lawful := by
  induction evs generalizing q with
  | nil => exact h
  | cons ev evs ih => exact ih (h.place ev)

theorem EventQueue.Lawful.complete {q : EventQueue} (h : q.Lawful) : q.complete.Lawful := by
  unfold EventQueue.complete
  split
  · exact h
  · exact { h with reading := by simp }
  · rename_i rd head rest hrd hentries
    obtain ⟨-, hmerges, hchanged⟩ := h.reading rd hrd
    have hkeys : ((head :: rest).map EventRecord.key).Nodup := hentries ▸ h.oneEach
    split
    · rename_i changed
      refine ⟨hkeys, fun r hr => ?_, by simp [h.attn, hentries], by simp⟩
      rcases List.mem_cons.mp hr with rfl | hr
      · exact ⟨hchanged changed, hmerges⟩
      · exact h.merged r (by simp [hentries, hr])
    · refine ⟨(List.nodup_cons.mp hkeys).2, fun r hr => h.merged r (by simp [hentries, hr]), by simp, by simp⟩

theorem EventQueue.Lawful.read {q r : EventQueue} (h : q.Lawful) (hr : q.Read r) : r.Lawful := by
  cases hr with
  | same => exact h
  | captured head rest hentries =>
    refine { h with reading := ?_ }
    intro rd hrd
    obtain rfl := Option.some.inj hrd
    exact ⟨⟨head, rest, hentries, rfl⟩, Nat.zero_le _, nofun⟩
  | completed => exact h.complete
  | cutShort => exact { h with reading := by simp [EventQueue.cutShort] }

theorem lawful_initialEvents : EventQueue.initial.Lawful :=
  ⟨List.nodup_nil, by simp [EventQueue.initial], by simp [EventQueue.initial], by simp [EventQueue.initial]⟩

/-- The keys an entry can have: a lock, or one of the seven kinds of station event (R158). -/
def allEventKeys : List EventKey :=
  allLocks.map EventKey.lock ++ ([1, 2, 3, 4, 5, 6, 7] : List (Fin 8)).map EventKey.station

theorem key_mem_allEventKeys (ev : Event) : ev.key ∈ allEventKeys := by
  cases ev with
  | lock l o => exact List.mem_append_left _ (List.mem_map_of_mem (List.mem_finRange l))
  | station e =>
    refine List.mem_append_right _ (List.mem_map_of_mem ?_)
    cases e <;> simp [StationEvent.kindNumber]

/-- One entry for each key: there are 64 locks and 7 kinds of station event (R161). -/
theorem EventQueue.Lawful.length_le {q : EventQueue} (h : q.Lawful) : q.entries.length ≤ 71 := by
  have hsub : q.entries.map EventRecord.key ⊆ allEventKeys := by
    intro key hkey
    obtain ⟨r, -, rfl⟩ := List.mem_map.mp hkey
    exact key_mem_allEventKeys r.event
  calc q.entries.length = (q.entries.map EventRecord.key).length := (List.length_map _).symm
    _ ≤ allEventKeys.length := (h.oneEach.subperm hsub).length_le
    _ = 71 := rfl

/-- Settles O57: events are placed, the head is read, and each keeps the law. -/
theorem everyStepKeepsTheEventQueue : Obligations.EveryStepKeepsTheEventQueue := by
  intro s t hs hstep
  have hrow {s t : State} (h : s.events.Lawful) (row : PortRow s t) : t.events.Lawful := by
    obtain ⟨evs, hread⟩ := row.events
    exact (h.places evs).read hread
  have ht : t.events.Lawful := by
    refine step_keeps (law := fun s => s.events.Lawful) (fun _ _ h => h) (fun s h => hrow h moves_timePasses.portRow)
      (fun _ _ restarted => ?_) (fun _ _ _ h _ keeps => hrow h keeps.row) hs hstep
    exact restarted.events.symm ▸ lawful_initialEvents
  exact ⟨ht, ht.length_le⟩

end Sys2Proof.Machine
end

section
/-! SUPPORT. Sets of stations, and the lock table's own rules: what the grant rule, ACQUIRE, RELEASE, CANCEL and the purge
make of one entry, and that each leaves a lawful one. -/

namespace Sys2Proof.Machine

/-! ### Sets of stations -/

theorem stations_ext {s t : StationSet} (h : ∀ i, inSet s i = inSet t i) : s = t :=
  BitVec.eq_of_getLsbD_eq fun i hi => h ⟨i, hi⟩

@[simp] theorem inSet_zero (i : StationId) : inSet 0#16 i = false := BitVec.getLsbD_zero

@[simp] theorem inSet_single (i j : StationId) : inSet (single i) j = decide (i = j) := by
  simp [inSet, single, Fin.ext_iff, j.isLt, eq_comm]

@[simp] theorem inSet_addTo (s : StationSet) (i j : StationId) : inSet (addTo s i) j = (inSet s j || decide (i = j)) := by
  simpa [addTo, inSet] using congrArg (inSet s j || ·) (inSet_single i j)

@[simp] theorem inSet_takeFrom (s : StationSet) (i j : StationId) :
    inSet (takeFrom s i) j = (inSet s j && !decide (i = j)) := by
  have h : inSet (~~~ single i) j = !decide (i = j) := by
    simpa [inSet, j.isLt] using congrArg (! ·) (inSet_single i j)
  simpa [takeFrom, inSet] using congrArg (inSet s j && ·) h

theorem eq_zero_iff_inSet {s : StationSet} : s = 0#16 ↔ ∀ i, inSet s i = false :=
  ⟨fun h i => by rw [h, inSet_zero], fun h => stations_ext fun i => by rw [h, inSet_zero]⟩

theorem addTo_ne_zero (s : StationSet) (i : StationId) : addTo s i ≠ 0#16 := fun h => by
  simpa using eq_zero_iff_inSet.mp h i

theorem addTo_zero (i : StationId) : addTo 0#16 i = single i := stations_ext fun j => by simp

theorem takeFrom_single (i : StationId) : takeFrom (single i) i = 0#16 :=
  eq_zero_iff_inSet.mpr fun j => by simp

theorem mem_allStations (i : StationId) : i ∈ allStations := List.mem_finRange i

/-- The stations of a set, lowest first. -/
def membersOfSet (s : StationSet) : List StationId := allStations.filter (inSet s)

theorem mem_membersOfSet {s : StationSet} {i : StationId} : i ∈ membersOfSet s ↔ inSet s i = true := by
  simp [membersOfSet, mem_allStations]

theorem length_membersOfSet (s : StationSet) : (membersOfSet s).length = sizeOfSet s :=
  List.countP_eq_length_filter.symm

theorem nodup_membersOfSet (s : StationSet) : (membersOfSet s).Nodup := (List.nodup_finRange 16).filter _

theorem sizeOfSet_eq_zero {s : StationSet} : sizeOfSet s = 0 ↔ s = 0#16 := by
  simp [sizeOfSet, List.countP_eq_zero, mem_allStations, eq_zero_iff_inSet]

theorem sizeOfSet_eq_one {s : StationSet} : sizeOfSet s = 1 ↔ ∃ i, s = single i := by
  constructor
  · intro h
    obtain ⟨i, hi⟩ := List.length_eq_one_iff.mp ((length_membersOfSet s).trans h)
    refine ⟨i, stations_ext fun j => ?_⟩
    have hj : inSet s j = true ↔ j = i := by rw [← mem_membersOfSet, hi, List.mem_singleton]
    rw [inSet_single, Bool.eq_iff_iff, hj, decide_eq_true_eq, eq_comm]
  · rintro ⟨i, rfl⟩
    have key : ∀ i : StationId, sizeOfSet (single i) = 1 := by decide
    exact key i

/-! ### The grant rule (R45, R46) -/

theorem grantRun_of_grantable {mode : LockMode} {w : Waiter} (h : grantable mode w.mode = true) (holders : StationSet)
    (grants : Word16) (ws : List Waiter) :
    grantRun mode holders grants (w :: ws) =
      ((grantRun w.mode.asLock (addTo holders w.station) (grants + 1) ws).1,
        ⟨w.station, w.mode, grants + 1⟩ :: (grantRun w.mode.asLock (addTo holders w.station) (grants + 1) ws).2) :=
  if_pos h

theorem grantRun_of_not_grantable {mode : LockMode} {w : Waiter} (h : grantable mode w.mode = false)
    (holders : StationSet) (grants : Word16) (ws : List Waiter) :
    grantRun mode holders grants (w :: ws) = ({ mode, holders, waiters := w :: ws, grants }, []) :=
  if_neg (by simp [h])

theorem settled_iff {e : LockEntry} :
    settled e = true ↔ ∀ w rest, e.waiters = w :: rest → grantable e.mode w.mode = false := by
  unfold settled
  split
  · simp_all
  · rename_i w rest h
    simp [h]

theorem settled_grantRun (mode : LockMode) (holders : StationSet) (grants : Word16) (ws : List Waiter) :
    settled (grantRun mode holders grants ws).1 = true := by
  induction ws generalizing mode holders grants with
  | nil => rfl
  | cons w ws ih =>
    cases h : grantable mode w.mode with
    | true =>
      rw [grantRun_of_grantable h]
      exact ih _ _ _
    | false =>
      rw [grantRun_of_not_grantable h]
      simp [settled, h]

theorem settled_grantRule (e : LockEntry) : settled (grantRule e).1 = true := settled_grantRun _ _ _ _

theorem grantRule_of_settled {e : LockEntry} (h : settled e = true) : grantRule e = (e, []) := by
  cases hw : e.waiters with
  | nil =>
    rw [grantRule, hw, grantRun, ← hw]
  | cons w rest =>
    rw [grantRule, hw, grantRun_of_not_grantable (settled_iff.mp h w rest hw), ← hw]

theorem grantable_exclusive (m : Mode) : grantable .exclusive m = false := by cases m <;> rfl

/-- An EXCLUSIVE grant ends the run: nothing more can be granted beside it. -/
theorem grantRun_exclusive (holders : StationSet) (grants : Word16) (ws : List Waiter) :
    grantRun .exclusive holders grants ws = ({ mode := .exclusive, holders, waiters := ws, grants }, []) := by
  cases ws with
  | nil => rfl
  | cons w ws => exact grantRun_of_not_grantable (grantable_exclusive w.mode) _ _ _

/-- A run of SHARED heads of a SHARED entry, ended by the list's end or an EXCLUSIVE head. -/
theorem grantRun_shared (run rest : List Waiter) (hrun : ∀ w ∈ run, w.mode = .shared)
    (hrest : ∀ w, rest.head? = some w → w.mode = .exclusive) (holders : StationSet) (grants : Word16) :
    grantRun .shared holders grants (run ++ rest) =
      ({ mode := .shared, holders := run.foldl (fun h w => addTo h w.station) holders, waiters := rest,
         grants := grants + BitVec.ofNat 16 run.length },
       run.mapIdx (fun n w => { station := w.station, mode := .shared, token := grants + BitVec.ofNat 16 (n + 1) })) := by
  induction run generalizing holders grants with
  | nil =>
    cases rest with
    | nil => simp [grantRun]
    | cons w rest =>
      have hw : grantable .shared w.mode = false := by rw [hrest w rfl]; rfl
      simp [grantRun_of_not_grantable hw]
  | cons w run ih =>
    obtain ⟨hw, hrun⟩ := List.forall_mem_cons.mp hrun
    have token (n : Nat) : grants + BitVec.ofNat 16 (n + 1) = grants + 1 + BitVec.ofNat 16 n := by
      rw [BitVec.add_assoc, Nat.add_comm n 1, BitVec.ofNat_add]
      rfl
    rw [List.cons_append, grantRun_of_grantable (by rw [hw]; rfl), hw]
    have hmode : Mode.asLock .shared = .shared := rfl
    rw [hmode, ih hrun, List.mapIdx_cons]
    simp only [List.foldl_cons, List.length_cons, token, Nat.zero_add, BitVec.add_zero]

/-- Settles O49: the grant rule runs down the list until a head cannot be granted. -/
theorem grantRuleServesTheHeadOfTheList : Obligations.GrantRuleServesTheHeadOfTheList := by
  intro e
  refine ⟨settled_grantRule e, grantRule_of_settled, fun i rest hmode hwaiters => ?_,
    fun run rest hmode hwaiters hne hrun hrest => ?_⟩
  · rw [grantRule, hwaiters, hmode, grantRun_of_grantable rfl]
    exact congrArg (fun g => (g.1, _ :: g.2)) (grantRun_exclusive _ _ _)
  · have hshared := grantRun_shared run rest hrun hrest e.holders e.grants
    rw [← hshared, grantRule, hwaiters]
    cases hm : e.mode with
    | exclusive => exact absurd hm hmode
    | shared => rfl
    | free =>
      cases run with
      | nil => exact absurd rfl hne
      | cons w run =>
        have hw : w.mode = .shared := hrun w List.mem_cons_self
        rw [List.cons_append, grantRun_of_grantable rfl, grantRun_of_grantable (by rw [hw]; rfl)]

/-! ### What a run of grants does -/

/-- The grants of a run, with the waiters left, are the list before it. -/
theorem grantRun_waiters (mode : LockMode) (holders : StationSet) (grants : Word16) (ws : List Waiter) :
    ws = (grantRun mode holders grants ws).2.map (fun g => { station := g.station, mode := g.mode }) ++
      (grantRun mode holders grants ws).1.waiters := by
  induction ws generalizing mode holders grants with
  | nil => rfl
  | cons w ws ih =>
    cases h : grantable mode w.mode with
    | true =>
      rw [grantRun_of_grantable h]
      exact congrArg (w :: ·) (ih _ _ _)
    | false =>
      rw [grantRun_of_not_grantable h]
      rfl

theorem grantRun_grants (mode : LockMode) (holders : StationSet) (grants : Word16) (ws : List Waiter) :
    (grantRun mode holders grants ws).1.grants =
      grants + BitVec.ofNat 16 (grantRun mode holders grants ws).2.length := by
  induction ws generalizing mode holders grants with
  | nil => simp [grantRun]
  | cons w ws ih =>
    cases h : grantable mode w.mode with
    | true =>
      rw [grantRun_of_grantable h]
      simp only [ih, List.length_cons]
      rw [BitVec.add_assoc, Nat.add_comm _ 1, BitVec.ofNat_add]
      rfl
    | false => simp [grantRun_of_not_grantable h]

/-- Who holds after a run held before it or stood in the list. -/
theorem inSet_grantRun_holders {mode : LockMode} {holders : StationSet} {grants : Word16} {ws : List Waiter}
    {i : StationId} (h : inSet (grantRun mode holders grants ws).1.holders i = true) :
    inSet holders i = true ∨ ∃ w ∈ ws, w.station = i := by
  induction ws generalizing mode holders grants with
  | nil => exact .inl h
  | cons w ws ih =>
    cases hg : grantable mode w.mode with
    | true =>
      rw [grantRun_of_grantable hg] at h
      rcases ih h with h | ⟨x, hx, rfl⟩
      · rcases Bool.or_eq_true_iff.mp (inSet_addTo holders w.station i ▸ h) with h | h
        · exact .inl h
        · exact .inr ⟨w, List.mem_cons_self, of_decide_eq_true h⟩
      · exact .inr ⟨x, List.mem_cons_of_mem _ hx, rfl⟩
    | false =>
      rw [grantRun_of_not_grantable hg] at h
      exact .inl h

/-- A run takes no holder out. -/
theorem inSet_grantRun_of_inSet {holders : StationSet} {i : StationId} (h : inSet holders i = true) (mode : LockMode)
    (grants : Word16) (ws : List Waiter) : inSet (grantRun mode holders grants ws).1.holders i = true := by
  induction ws generalizing mode holders grants with
  | nil => exact h
  | cons w ws ih =>
    cases hg : grantable mode w.mode with
    | true =>
      rw [grantRun_of_grantable hg]
      exact ih (by simp [h]) _ _
    | false =>
      rw [grantRun_of_not_grantable hg]
      exact h

/-! ### Lawful entries -/

theorem waits_iff {e : LockEntry} {i : StationId} : e.waits i = true ↔ ∃ w ∈ e.waiters, w.station = i := by
  simp [LockEntry.waits]

/-- An entry that the grant rule may be run on: the laws but that of the head (R42, R43). -/
structure LockEntry.Sound (members : Vector MemberEntry 16) (e : LockEntry) : Prop where
  free      : e.mode = .free → e.holders = 0#16
  shared    : e.mode = .shared → e.holders ≠ 0#16
  exclusive : e.mode = .exclusive → ∃ i, e.holders = single i
  once      : (e.waiters.map (·.station)).Nodup ∧ ∀ w ∈ e.waiters, e.holds w.station = false
  parties   : ∀ i, (e.holds i = true ∨ e.waits i = true) → statusIn members i = .active

section
variable {members : Vector MemberEntry 16} {e : LockEntry} {x : StationId}

theorem LockEntry.Lawful.sound (h : e.Lawful members) : e.Sound members where
  free hmode := (h.free hmode).1
  shared := h.shared
  exclusive := h.exclusive
  once := h.once
  parties := h.parties

/-- Sixteen stations, none of them twice, fit into a lock. -/
theorem fit_of_once (h : (e.waiters.map (·.station)).Nodup ∧ ∀ w ∈ e.waiters, e.holds w.station = false) :
    sizeOfSet e.holders + e.waiters.length ≤ 16 := by
  have hnodup : (membersOfSet e.holders ++ e.waiters.map (·.station)).Nodup := by
    refine List.nodup_append.mpr ⟨nodup_membersOfSet _, h.1, ?_⟩
    rintro i hi j hj rfl
    obtain ⟨w, hw, rfl⟩ := List.mem_map.mp hj
    have := h.2 w hw
    rw [LockEntry.holds, mem_membersOfSet.mp hi] at this
    cases this
  calc sizeOfSet e.holders + e.waiters.length
      = (membersOfSet e.holders ++ e.waiters.map (·.station)).length := by simp [length_membersOfSet]
    _ ≤ allStations.length := (hnodup.subperm fun i _ => mem_allStations i).length_le
    _ = 16 := rfl

/-- A settled sound entry is lawful: in a FREE one no head stays. -/
theorem LockEntry.Sound.lawful (h : e.Sound members) (hsettled : settled e = true) : e.Lawful members where
  free hmode := by
    refine ⟨h.free hmode, ?_⟩
    cases hw : e.waiters with
    | nil => rfl
    | cons w rest =>
      have := settled_iff.mp hsettled w rest hw
      rw [hmode] at this
      cases this
  shared := h.shared
  exclusive := h.exclusive
  once := h.once
  fit := fit_of_once h.once
  parties := h.parties
  head := settled_iff.mp hsettled

/-- One grant to the head of the list keeps a sound entry sound. -/
theorem LockEntry.Sound.grantHead {w : Waiter} {ws : List Waiter} (h : e.Sound members) (hw : e.waiters = w :: ws)
    (hg : grantable e.mode w.mode = true) (grants : Word16) :
    ({ mode := w.mode.asLock, holders := addTo e.holders w.station, waiters := ws, grants } : LockEntry).Sound
      members where
  free hmode := by cases hm : w.mode <;> simp [hm, Mode.asLock] at hmode
  shared _ := addTo_ne_zero _ _
  exclusive hmode := by
    have hexclusive : w.mode = .exclusive := by cases hm : w.mode <;> simp [hm, Mode.asLock] at hmode ⊢
    have hfree : e.mode = .free := by cases hm : e.mode <;> simp [hm, hexclusive, grantable] at hg ⊢
    exact ⟨w.station, by rw [h.free hfree, addTo_zero]⟩
  once := by
    obtain ⟨hnodup, hheld⟩ := h.once
    rw [hw, List.map_cons, List.nodup_cons] at hnodup
    refine ⟨hnodup.2, fun v hv => ?_⟩
    have hne : w.station ≠ v.station := fun hs => hnodup.1 (hs ▸ List.mem_map_of_mem hv)
    have hv' : inSet e.holders v.station = false := hheld v (hw ▸ List.mem_cons_of_mem _ hv)
    simp [LockEntry.holds, hv', hne]
  parties i hi := by
    refine h.parties i ?_
    rcases hi with hi | hi
    · rw [LockEntry.holds, inSet_addTo, Bool.or_eq_true, decide_eq_true_eq] at hi
      rcases hi with hi | hi
      · exact .inl hi
      · exact .inr (waits_iff.mpr ⟨w, hw ▸ List.mem_cons_self, hi⟩)
    · obtain ⟨v, hv, rfl⟩ := waits_iff.mp hi
      exact .inr (waits_iff.mpr ⟨v, hw ▸ List.mem_cons_of_mem _ hv, rfl⟩)

theorem sound_grantRun {mode : LockMode} {holders : StationSet} {grants : Word16} {ws : List Waiter}
    (h : ({ mode, holders, waiters := ws, grants } : LockEntry).Sound members) :
    (grantRun mode holders grants ws).1.Sound members := by
  induction ws generalizing mode holders grants with
  | nil => exact h
  | cons w ws ih =>
    cases hg : grantable mode w.mode with
    | true =>
      rw [grantRun_of_grantable hg]
      exact ih (h.grantHead rfl hg (grants + 1))
    | false =>
      rw [grantRun_of_not_grantable hg]
      exact h

/-- The grant rule leaves a lawful entry (R46). -/
theorem LockEntry.Sound.grantRule_lawful (h : e.Sound members) : (grantRule e).1.Lawful members :=
  LockEntry.Sound.lawful (sound_grantRun h) (settled_grantRule e)

/-! ### RELEASE, CANCEL and the purge (R51 to R53, R55) -/

theorem dropHolder_holds (e : LockEntry) (x i : StationId) :
    (dropHolder e x).holds i = (e.holds i && !decide (x = i)) := inSet_takeFrom _ _ _

theorem LockEntry.Sound.dropHolder (h : e.Sound members) (hx : e.holds x = true) : (dropHolder e x).Sound members where
  free hmode := by
    by_cases hrest : takeFrom e.holders x = 0
    · exact hrest
    · have hfree : e.mode = .free := (if_neg hrest).symm.trans hmode
      rw [LockEntry.holds, h.free hfree, inSet_zero] at hx
      cases hx
  shared hmode hrest := by
    have hfree : LockMode.free = .shared := (if_pos hrest).symm.trans hmode
    cases hfree
  exclusive hmode := by
    by_cases hrest : takeFrom e.holders x = 0
    · have hfree : LockMode.free = .exclusive := (if_pos hrest).symm.trans hmode
      cases hfree
    · have hexclusive : e.mode = .exclusive := (if_neg hrest).symm.trans hmode
      obtain ⟨i, hi⟩ := h.exclusive hexclusive
      obtain rfl : i = x := by simpa [LockEntry.holds, hi] using hx
      exact absurd (hi ▸ takeFrom_single i) hrest
  once := by
    refine ⟨h.once.1, fun w hw => ?_⟩
    rw [dropHolder_holds, h.once.2 w hw, Bool.false_and]
  parties i hi := by
    refine h.parties i (hi.imp_left fun hi => ?_)
    rw [dropHolder_holds, Bool.and_eq_true] at hi
    exact hi.1

theorem LockEntry.Sound.dropWaiter (h : e.Sound members) (x : StationId) : (dropWaiter e x).Sound members where
  free := h.free
  shared := h.shared
  exclusive := h.exclusive
  once := ⟨h.once.1.sublist (List.Sublist.map _ List.filter_sublist), fun w hw => h.once.2 w (List.mem_of_mem_filter hw)⟩
  parties i hi := by
    refine h.parties i (hi.imp_right fun hi => ?_)
    obtain ⟨w, hw, rfl⟩ := waits_iff.mp hi
    exact waits_iff.mpr ⟨w, List.mem_of_mem_filter hw, rfl⟩

/-- The entry that the purge runs the grant rule on (R55). -/
def purged (x : StationId) (e : LockEntry) : LockEntry := dropWaiter (if e.holds x then dropHolder e x else e) x

theorem purgeEntry_eq (x : StationId) (e : LockEntry) : purgeEntry x e = grantRule (purged x e) := rfl

theorem LockEntry.Sound.purged (h : e.Sound members) (x : StationId) : (purged x e).Sound members := by
  unfold Machine.purged
  split
  · rename_i hx
    exact (h.dropHolder hx).dropWaiter x
  · exact h.dropWaiter x

theorem purged_holds (x : StationId) (e : LockEntry) (i : StationId) :
    (purged x e).holds i = (e.holds i && !decide (x = i)) := by
  unfold purged
  cases hx : e.holds x with
  | true => exact dropHolder_holds e x i
  | false =>
    show e.holds i = _
    by_cases h : x = i
    · subst h
      simp [hx]
    · simp [h]

theorem purged_waiters (x : StationId) (e : LockEntry) :
    (purged x e).waiters = e.waiters.filter (·.station != x) := by
  unfold purged
  split <;> rfl

theorem purged_grants (x : StationId) (e : LockEntry) : (purged x e).grants = e.grants := by
  unfold purged
  split <;> rfl

/-- Who stands in an entry after the grant rule stood there before. -/
theorem party_of_grantRule {i : StationId} (h : (grantRule e).1.holds i = true ∨ (grantRule e).1.waits i = true) :
    e.holds i = true ∨ e.waits i = true := by
  rcases h with h | h
  · exact (inSet_grantRun_holders h).imp_right waits_iff.mpr
  · obtain ⟨w, hw, rfl⟩ := waits_iff.mp h
    refine .inr (waits_iff.mpr ⟨w, ?_, rfl⟩)
    rw [grantRun_waiters e.mode e.holders e.grants e.waiters]
    exact List.mem_append_right _ hw

theorem purged_not_party (x : StationId) (e : LockEntry) :
    (purged x e).holds x = false ∧ (purged x e).waits x = false := by
  simp [purged_holds, LockEntry.waits, purged_waiters]

theorem purgeEntry_not_party (x : StationId) (e : LockEntry) :
    (purgeEntry x e).1.holds x = false ∧ (purgeEntry x e).1.waits x = false := by
  obtain ⟨hholds, hwaits⟩ := purged_not_party x e
  have hparty : ¬ ((purgeEntry x e).1.holds x = true ∨ (purgeEntry x e).1.waits x = true) := fun h => by
    simpa [hholds, hwaits] using party_of_grantRule (e := purged x e) h
  simpa using hparty

theorem purged_of_not_party (hholds : e.holds x = false) (hwaits : e.waits x = false) : purged x e = e := by
  have hwaiters : e.waiters.filter (·.station != x) = e.waiters := by
    refine List.filter_eq_self.mpr fun w hw => ?_
    simpa using fun hx => by simpa [hwaits] using waits_iff.mpr ⟨w, hw, hx⟩
  rw [purged, hholds]
  exact congrArg (fun ws => { e with waiters := ws }) hwaiters

/-- Settles O51: what the purge takes out, and what the grant rule does after it. -/
theorem purgeRemovesTheStation : Obligations.PurgeRemovesTheStation := by
  intro members e x h after grants
  obtain ⟨hholds, hwaits⟩ := purgeEntry_not_party x e
  have hfilter : e.waiters.filter (fun w => w.station ≠ x) = (purged x e).waiters := by
    rw [purged_waiters]
    refine List.filter_congr fun w _ => ?_
    rw [bne, Bool.beq_eq_decide_eq, decide_not]
  refine ⟨hholds, hwaits, settled_grantRule _, fun i hi he => ?_, ?_, ?_, fun hnot hnotw => ?_⟩
  · refine inSet_grantRun_of_inSet (h := ?_) _ _ _
    show (purged x e).holds i = true
    simp [purged_holds, he, Ne.symm hi]
  · rw [hfilter]
    exact grantRun_waiters _ _ _ _
  · rw [← purged_grants x e]
    exact grantRun_grants _ _ _ _
  · have hsettled : settled e = true := settled_iff.mpr h.head
    have hpurge : purgeEntry x e = (e, []) := by
      rw [purgeEntry_eq, purged_of_not_party hnot hnotw, grantRule_of_settled hsettled]
    exact ⟨congrArg Prod.fst hpurge, congrArg Prod.snd hpurge⟩

/-! ### The request frames (R49 to R53) -/

theorem grantable_iff (mode : LockMode) (m : Mode) :
    grantable mode m = true ↔ mode = .free ∨ (mode = .shared ∧ m = .shared) := by
  cases mode <;> cases m <;> simp [grantable]

/-- An entry with a further waiter at the tail is settled where the entry was, and the waiter is no head to be
granted. -/
theorem settled_enqueue (h : settled e = true) {m : Mode} (hm : ¬ (e.waiters = [] ∧ grantable e.mode m = true)) :
    settled { e with waiters := e.waiters ++ [⟨x, m⟩] } = true := by
  refine settled_iff.mpr fun w rest hw => ?_
  cases hwaiters : e.waiters with
  | nil =>
    rw [hwaiters, List.nil_append] at hw
    obtain ⟨rfl, -⟩ := List.cons.inj hw
    simpa [hwaiters] using hm
  | cons v vs =>
    rw [hwaiters, List.cons_append] at hw
    obtain ⟨rfl, -⟩ := List.cons.inj hw
    exact settled_iff.mp h _ _ hwaiters

theorem acquireEntry_eq (h : settled e = true) (x : StationId) (m : Mode) (try_ : Bool) :
    acquireEntry e x m try_ =
      if e.holds x = true ∨ e.waits x = true then { entry := e, outcome := .duplicate, grants := [] }
      else if e.waiters = [] ∧ grantable e.mode m = true then
        { entry := grantAtOnce e x m, outcome := .granted m (e.grants + 1), grants := [] }
      else if try_ = true then { entry := e, outcome := .denied, grants := [] }
      else
        { entry := { e with waiters := e.waiters ++ [⟨x, m⟩] }, outcome := .queued m (e.waiters.length + 1),
          grants := [] } := by
  unfold acquireEntry
  simp only [Bool.or_eq_true, Bool.and_eq_true, List.isEmpty_iff]
  split
  · rfl
  · split
    · rename_i hfree
      have hsettled : settled (grantAtOnce e x m) = true :=
        settled_iff.mpr fun w rest hw => by simp [grantAtOnce, hfree.1] at hw
      rw [thenGrant, grantRule_of_settled hsettled]
    · rename_i hnot
      split
      · rfl
      · rw [thenGrant, grantRule_of_settled (settled_enqueue h hnot)]

theorem releaseEntry_of_not_holds (h : e.holds x = false) :
    releaseEntry e x = { entry := e, outcome := .releaseNoop, grants := [] } := by
  simp [releaseEntry, h]

theorem releaseEntry_of_holds (h : e.holds x = true) : releaseEntry e x = thenGrant (dropHolder e x) .released := by
  simp [releaseEntry, h]

theorem cancelEntry_of_not_waits (h : e.waits x = false) :
    cancelEntry e x = { entry := e, outcome := .cancelVoid, grants := [] } := by
  simp [cancelEntry, h]

theorem cancelEntry_of_waits (h : e.waits x = true) : cancelEntry e x = thenGrant (dropWaiter e x) .cancelled := by
  simp [cancelEntry, h]

theorem LockEntry.Lawful.acquireEntry (h : e.Lawful members) (hx : statusIn members x = .active) (m : Mode)
    (try_ : Bool) : (acquireEntry e x m try_).entry.Lawful members := by
  have hsettled : settled e = true := settled_iff.mpr h.head
  rw [acquireEntry_eq hsettled]
  split
  · exact h
  · rename_i hparty
    rw [not_or, Bool.not_eq_true, Bool.not_eq_true] at hparty
    split
    · rename_i hfree
      have hsound : ({ e with waiters := [⟨x, m⟩] } : LockEntry).Sound members :=
        { free := h.sound.free
          shared := h.shared
          exclusive := h.exclusive
          once := by simpa [LockEntry.holds] using hparty.1
          parties := fun i hi => by
            rcases hi with hi | hi
            · exact h.parties i (.inl hi)
            · obtain rfl : x = i := by simpa [LockEntry.waits] using hi
              exact hx }
      have hgrant := hsound.grantHead rfl hfree.2 (e.grants + 1)
      have hentry : grantAtOnce e x m =
          { mode := m.asLock, holders := addTo e.holders x, waiters := [], grants := e.grants + 1 } := by
        rw [grantAtOnce, hfree.1]
      rw [hentry]
      exact hgrant.lawful rfl
    · rename_i hnot
      split
      · exact h
      · refine LockEntry.Sound.lawful ?_ (settled_enqueue hsettled hnot)
        exact
          { free := h.sound.free
            shared := h.shared
            exclusive := h.exclusive
            once := by
              refine ⟨?_, ?_⟩
              · rw [List.map_append, List.nodup_append]
                refine ⟨h.once.1, by simp, ?_⟩
                rintro i hi j hj rfl
                obtain ⟨w, hw, rfl⟩ := List.mem_map.mp hi
                have hwx : w.station = x := by simpa using hj
                simpa [hparty.2] using waits_iff.mpr ⟨w, hw, hwx⟩
              · intro w hw
                rcases List.mem_append.mp hw with hw | hw
                · exact h.once.2 w hw
                · obtain rfl : w = ⟨x, m⟩ := by simpa using hw
                  exact hparty.1
            parties := fun i hi => by
              rcases hi with hi | hi
              · exact h.parties i (.inl hi)
              · obtain ⟨w, hw, rfl⟩ := waits_iff.mp hi
                rcases List.mem_append.mp hw with hw | hw
                · exact h.parties _ (.inr (waits_iff.mpr ⟨w, hw, rfl⟩))
                · obtain rfl : w = ⟨x, m⟩ := by simpa using hw
                  exact hx }

theorem LockEntry.Lawful.releaseEntry (h : e.Lawful members) (x : StationId) :
    (releaseEntry e x).entry.Lawful members := by
  cases hx : e.holds x with
  | false => rw [releaseEntry_of_not_holds hx]; exact h
  | true => rw [releaseEntry_of_holds hx]; exact (h.sound.dropHolder hx).grantRule_lawful

theorem LockEntry.Lawful.cancelEntry (h : e.Lawful members) (x : StationId) :
    (cancelEntry e x).entry.Lawful members := by
  cases hx : e.waits x with
  | false => rw [cancelEntry_of_not_waits hx]; exact h
  | true => rw [cancelEntry_of_waits hx]; exact (h.sound.dropWaiter x).grantRule_lawful

theorem LockEntry.Lawful.purgeEntry (h : e.Lawful members) (x : StationId) : (purgeEntry x e).1.Lawful members :=
  (h.sound.purged x).grantRule_lawful

/-- The laws beside another membership table that lists every party as ACTIVE too. -/
theorem LockEntry.Lawful.with_members {others : Vector MemberEntry 16} (h : e.Lawful members)
    (hparties : ∀ i, (e.holds i = true ∨ e.waits i = true) → statusIn others i = .active) : e.Lawful others :=
  { h with parties := hparties }

end

end Sys2Proof.Machine
end

section
/-! SUPPORT. The Table Engine: request frames and membership frames on the two tables, the join queue and the donor, the
check of a loaded entry, and that every application leaves a lawful lock table. -/

namespace Sys2Proof.Machine

/-! ### Request frames (R47) -/

theorem filter_station_ne (ws : List Waiter) (x : StationId) :
    ws.filter (fun w => decide (w.station ≠ x)) = ws.filter (·.station != x) :=
  List.filter_congr fun w _ => by rw [bne, Bool.beq_eq_decide_eq, decide_not]

/-- A change of one lock entry, by what a request frame from its sender makes of it. -/
structure RequestFrame (c : Change) (l : LockId) (sender : StationId) (f : LockEntry → Applied) : Prop where
  eq : ∀ (self : StationId) (epochAfter : Word16) (t : TableEngine),
    applyChange self epochAfter sender c t = applyRequest self sender t l f

theorem requestFrame_acquire (l : LockId) (m : Mode) (try_ : Bool) (x : StationId) :
    RequestFrame (.acquire l m try_) l x (fun e => acquireEntry e x m try_) := ⟨fun _ _ _ => rfl⟩

theorem requestFrame_release (l : LockId) (x : StationId) :
    RequestFrame (.release l) l x (fun e => releaseEntry e x) := ⟨fun _ _ _ => rfl⟩

theorem requestFrame_cancel (l : LockId) (x : StationId) :
    RequestFrame (.cancel l) l x (fun e => cancelEntry e x) := ⟨fun _ _ _ => rfl⟩

theorem applyRequest_of_not_active {self sender : StationId} {t : TableEngine} (h : statusIn t.members sender ≠ .active)
    (l : LockId) (f : LockEntry → Applied) :
    applyRequest self sender t l f = { table := t, notices := [], member := none } := if_neg h

theorem applyRequest_of_active {self sender : StationId} {t : TableEngine} (h : statusIn t.members sender = .active)
    (l : LockId) (f : LockEntry → Applied) : applyRequest self sender t l f = applyEntry self sender t l f := if_pos h

theorem RequestFrame.spec {c : Change} {l : LockId} {x : StationId} {f : LockEntry → Applied}
    (h : RequestFrame c l x f) (self : StationId) (epochAfter : Word16) (t : TableEngine) :
    (statusIn t.members x ≠ .active →
      applyChange self epochAfter x c t = { table := t, notices := [], member := none }) ∧
    (statusIn t.members x = .active →
      (∀ k, entryAt (applyChange self epochAfter x c t).table.locks k =
        if k = l then (f (entryAt t.locks l)).entry else entryAt t.locks k) ∧
      (applyChange self epochAfter x c t).table.members = t.members ∧
      (applyChange self epochAfter x c t).table.validity = t.validity ∧
      (applyChange self epochAfter x c t).member = none ∧
      (applyChange self epochAfter x c t).notices =
        (if x = self then [LockNotice.own l (f (entryAt t.locks l)).outcome] else []) ++
          ((f (entryAt t.locks l)).grants.filter (fun g => g.station = self)).map
            (fun g => LockNotice.grant l g.mode g.token)) := by
  rw [h.eq]
  refine ⟨fun hx => applyRequest_of_not_active hx l f, fun hx => ?_⟩
  rw [applyRequest_of_active hx]
  refine ⟨fun k => ?_, rfl, rfl, rfl, ?_⟩
  · show entryAt (setEntry t.locks l _) k = _
    rw [entryAt_setEntry]
    exact if_congr eq_comm rfl rfl
  · show _ ++ grantNotices self l _ = _
    simp only [grantNotices, Bool.beq_eq_decide_eq]

/-- Settles O50: Table 3-3 on a settled entry, the grant rule after a RELEASE and a CANCEL, and the one entry that a
request frame changes. -/
theorem requestsChangeOneEntry : Obligations.RequestsChangeOneEntry := by
  refine ⟨fun e x m try_ h => ?_, fun e x => ?_, ?_⟩
  · rw [acquireEntry_eq h]
    simp only [grantable_iff]
    refine if_congr Iff.rfl rfl ?_
    split
    · rename_i hfree
      have hentry : grantAtOnce e x m =
          { mode := m.asLock, holders := addTo e.holders x, waiters := [], grants := e.grants + 1 } := by
        rw [grantAtOnce, hfree.1]
      rw [hentry]
      rfl
    · rfl
  · refine ⟨releaseEntry_of_not_holds, fun h => releaseEntry_of_holds h, cancelEntry_of_not_waits, fun h => ?_⟩
    rw [cancelEntry_of_waits h, thenGrant, dropWaiter, ← filter_station_ne]
  · intro self x epochAfter t l m try_ requests r hr
    have hspec (c : Change) (f : LockEntry → Applied) (h : RequestFrame c l x f) := h.spec self epochAfter t
    simp only [requests, List.mem_cons, List.not_mem_nil, or_false] at hr
    rcases hr with rfl | rfl | rfl
    · exact hspec _ _ (requestFrame_acquire l m try_ x)
    · exact hspec _ _ (requestFrame_release l x)
    · exact hspec _ _ (requestFrame_cancel l x)

/-! ### Membership frames (R68, Table 4-1) -/

@[simp] theorem entryAt_purgeLocks (x : StationId) (locks : Vector LockEntry 64) (l : LockId) :
    entryAt (purgeLocks x locks) l = (purgeEntry x (entryAt locks l)).1 := by
  simp [entryAt, purgeLocks]

theorem applyMember_members (self : StationId) (t : TableEngine) (k : Kind) (x : StationId) (purge : Bool)
    (entry : MemberEntry) (i : StationId) :
    entryAt (applyMember self t k x purge entry).table.members i = if i = x then entry else entryAt t.members i := by
  show entryAt (setEntry t.members x entry) i = _
  rw [entryAt_setEntry]
  exact if_congr eq_comm rfl rfl

theorem applyMember_locks (self : StationId) (t : TableEngine) (k : Kind) (x : StationId) (purge : Bool)
    (entry : MemberEntry) (l : LockId) :
    entryAt (applyMember self t k x purge entry).table.locks l =
      if purge then (purgeEntry x (entryAt t.locks l)).1 else entryAt t.locks l := by
  cases purge
  · rfl
  · exact entryAt_purgeLocks x t.locks l

theorem applyEvict_of_absent {self : StationId} {t : TableEngine} {x : StationId}
    (h : statusIn t.members x = .absent) :
    applyEvict self t x = applyMember self t .evict x false (entryAt t.members x) := if_pos h

theorem applyEvict_of_present {self : StationId} {t : TableEngine} {x : StationId}
    (h : statusIn t.members x ≠ .absent) : applyEvict self t x = applyMember self t .evict x true .absent := if_neg h

/-- Settles O52: each membership frame is the one change of `applyMember`, with Table 4-1's purge and entry. -/
theorem membershipFollowsTable4_1 : Obligations.MembershipFollowsTable4_1 := by
  intro self x epochAfter t i l entry lock purged gone join ready leave evict
  refine ⟨applyMember_members _ _ _ _ _ _ _, ?_, ?_, applyMember_locks _ _ _ _ _ _ _,
    applyMember_members _ _ _ _ _ _ _, applyMember_locks _ _ _ _ _ _ _, fun sender => ?_⟩
  · refine (applyMember_locks _ _ _ _ _ _ _).trans ?_
    by_cases h : gone
    · rw [if_pos h]
      exact if_neg (by simpa using h)
    · rw [if_neg h]
      exact if_pos (by simpa using h)
  · refine (applyMember_members _ _ _ _ _ _ _).trans ?_
    by_cases hi : i = x
    · subst hi
      rw [if_pos rfl]
      exact if_congr ⟨fun h => ⟨rfl, h⟩, fun h => h.2⟩ rfl rfl
    · rw [if_neg hi, if_neg (fun h => hi h.1)]
  · show entryAt (applyEvict self t x).table.members i = _ ∧ entryAt (applyEvict self t x).table.locks l = _
    by_cases h : gone
    · rw [applyEvict_of_absent h, if_neg (fun c => c.2 h), if_pos h]
      refine ⟨(applyMember_members _ _ _ _ _ _ _).trans ?_, applyMember_locks _ _ _ _ _ _ _⟩
      split
      · rename_i hi
        exact congrArg _ hi.symm
      · rfl
    · rw [applyEvict_of_present h, if_neg h]
      refine ⟨(applyMember_members _ _ _ _ _ _ _).trans (if_congr ⟨fun hi => ⟨hi, h⟩, fun hi => hi.1⟩ rfl rfl),
        applyMember_locks _ _ _ _ _ _ _⟩

/-! ### Lawful tables -/

theorem lawful_fresh (members : Vector MemberEntry 16) : LockEntry.fresh.Lawful members where
  free _ := ⟨rfl, rfl⟩
  shared h := by cases h
  exclusive h := by cases h
  once := ⟨List.nodup_nil, nofun⟩
  fit := by decide
  parties i h := by simp [LockEntry.holds, LockEntry.waits, LockEntry.fresh] at h
  head w rest h := by cases h

theorem lawful_freshLocks {t : TableEngine} (h : t.locks = Vector.replicate 64 LockEntry.fresh) : t.Lawful := by
  intro l
  rw [h, entryAt_replicate]
  exact lawful_fresh _

theorem lawful_discarded : TableEngine.discarded.Lawful := lawful_freshLocks rfl

section
variable {t : TableEngine} {self x : StationId}

/-- A membership frame keeps a lawful lock table, where the station concerned stands ACTIVE after it or is purged of
every lock, or stands in none. -/
theorem lawful_applyMember (h : t.Lawful) {k : Kind} {purge : Bool} {entry : MemberEntry}
    (hx : entry.status = .active ∨ purge = true ∨ statusIn t.members x ≠ .active) :
    (applyMember self t k x purge entry).table.Lawful := by
  intro l
  have others {e : LockEntry} (he : e.Lawful t.members)
      (hnot : ¬ (entry.status = .active) → e.holds x = false ∧ e.waits x = false) :
      e.Lawful (applyMember self t k x purge entry).table.members := by
    refine he.with_members fun i hi => ?_
    unfold statusIn
    rw [applyMember_members]
    by_cases hix : i = x
    · rw [if_pos hix]
      by_contra hactive
      obtain ⟨hholds, hwaits⟩ := hnot hactive
      rw [hix, hholds, hwaits] at hi
      simp at hi
    · rw [if_neg hix]
      exact he.parties i hi
  rw [applyMember_locks]
  cases hp : purge with
  | true =>
    rw [if_pos rfl]
    exact hp ▸ others ((h l).purgeEntry x) fun _ => purgeEntry_not_party x _
  | false =>
    rw [if_neg Bool.false_ne_true]
    refine hp ▸ others (h l) fun hactive => ?_
    have hstatus : statusIn t.members x ≠ .active := by
      rcases hx with hx | hx | hx
      · exact absurd hx hactive
      · rw [hp] at hx
        cases hx
      · exact hx
    constructor
    · by_contra hholds
      exact hstatus ((h l).parties x (.inl (by simpa using hholds)))
    · by_contra hwaits
      exact hstatus ((h l).parties x (.inr (by simpa using hwaits)))

theorem lawful_applyRequest (h : t.Lawful) {l : LockId} {f : LockEntry → Applied}
    (hf : ∀ e : LockEntry, statusIn t.members x = .active → e.Lawful t.members → (f e).entry.Lawful t.members) :
    (applyRequest self x t l f).table.Lawful := by
  by_cases hx : statusIn t.members x = .active
  · rw [applyRequest_of_active hx]
    intro k
    show (entryAt (setEntry t.locks l _) k).Lawful t.members
    rw [entryAt_setEntry]
    split
    · exact hf _ hx (h l)
    · exact h k
  · rw [applyRequest_of_not_active hx]
    exact h

/-- Every committed frame leaves a lawful lock table (R47, R68). -/
theorem lawful_applyChange (h : t.Lawful) (epochAfter : Word16) (c : Change) :
    (applyChange self epochAfter x c t).table.Lawful := by
  cases c with
  | join =>
    refine lawful_applyMember h ?_
    by_cases hx : statusIn t.members x = .absent
    · exact .inr (.inr (by rw [hx]; decide))
    · exact .inr (.inl (by simpa using hx))
  | leave => exact lawful_applyMember h (.inr (.inl rfl))
  | ready =>
    refine lawful_applyMember h ?_
    by_cases hx : statusIn t.members x = .joining
    · exact .inl (by rw [if_pos hx])
    · rw [if_neg hx]
      exact (em (statusIn t.members x = .active)).imp_right .inr
  | evict y =>
    show (applyEvict self t y).table.Lawful
    by_cases hy : statusIn t.members y = .absent
    · rw [applyEvict_of_absent hy]
      exact lawful_applyMember h (.inr (.inr (by rw [hy]; decide)))
    · rw [applyEvict_of_present hy]
      exact lawful_applyMember h (.inr (.inl rfl))
  | acquire l m try_ => exact lawful_applyRequest h fun e hx he => he.acquireEntry hx m try_
  | release l => exact lawful_applyRequest h fun e _ he => he.releaseEntry x
  | cancel l => exact lawful_applyRequest h fun e _ he => he.cancelEntry x

end

/-! ### The load check (R59) -/

theorem modeAgrees_iff {e : LockEntry} :
    modeAgrees e = true ↔
      (e.mode = .free → e.holders = 0#16) ∧ (e.mode = .shared → e.holders ≠ 0#16) ∧
        (e.mode = .exclusive → ∃ i, e.holders = single i) := by
  unfold modeAgrees
  split <;> rename_i hmode
  · simp [hmode, sizeOfSet_eq_zero]
  · simp [hmode, Nat.one_le_iff_ne_zero, sizeOfSet_eq_zero]
  · simp [hmode, sizeOfSet_eq_one]

theorem noneTwice_iff {e : LockEntry} :
    noneTwice e = true ↔
      (e.waiters.map (·.station)).Nodup ∧ ∀ w ∈ e.waiters, e.holds w.station = false := by
  simp [noneTwice]

theorem everyParty_iff {p : StationId → Bool} {e : LockEntry} :
    everyParty p e = true ↔ ∀ i, (e.holds i = true ∨ e.waits i = true) → p i = true := by
  simp only [everyParty, Bool.and_eq_true, List.all_eq_true, Bool.or_eq_true, Bool.not_eq_true', mem_allStations,
    true_implies, waits_iff]
  constructor
  · rintro ⟨hholders, hwaiters⟩ i (hi | ⟨w, hw, rfl⟩)
    · exact (hholders i).resolve_left (by simp [hi])
    · exact hwaiters w hw
  · intro h
    refine ⟨fun i => ?_, fun w hw => h _ (.inr ⟨w, hw, rfl⟩)⟩
    cases hi : e.holds i with
    | false => exact .inl rfl
    | true => exact .inr (h i (.inl hi))

/-- The check of a loaded entry is the law of a lock entry beside the loaded members. -/
theorem loadCheck_iff {members : Vector MemberEntry 16} {e : LockEntry} :
    loadCheck members e = true ↔ e.Lawful members := by
  simp only [loadCheck, Bool.and_eq_true, modeAgrees_iff, noneTwice_iff, decide_eq_true_eq, everyParty_iff,
    beq_iff_eq]
  constructor
  · rintro ⟨⟨⟨⟨⟨free, shared, exclusive⟩, once⟩, -⟩, parties⟩, hsettled⟩
    have sound : e.Sound members := ⟨free, shared, exclusive, once, parties⟩
    exact sound.lawful hsettled
  · intro h
    exact ⟨⟨⟨⟨⟨h.sound.free, h.shared, h.exclusive⟩, h.once⟩, h.fit⟩, h.parties⟩, settled_iff.mpr h.head⟩

/-! ### The join queue and the donor (R66, R67) -/

/-- The first index of a table that passes a test. -/
theorem find?_finRange_eq_some_iff {n : Nat} {p : Fin n → Bool} {x : Fin n} :
    (List.finRange n).find? p = some x ↔ p x = true ∧ ∀ i, i < x → p i = false := by
  rw [List.find?_eq_some_iff_getElem]
  refine and_congr_right fun _ => ⟨?_, fun h => ⟨x.val, by simp, by simp, fun j hj => ?_⟩⟩
  · rintro ⟨k, hk, hx, h⟩ i hi
    have hkx : k = x.val := by simpa using congrArg Fin.val hx
    simpa using h i.val (hkx ▸ hi)
  · simpa using h ⟨j, hj.trans x.isLt⟩ hj

theorem donorOf_eq_some_iff {members : Vector MemberEntry 16} {x : StationId} :
    donorOf members = some x ↔ statusIn members x = .active ∧ ∀ i, i < x → statusIn members i ≠ .active := by
  simp [donorOf, allStations, find?_finRange_eq_some_iff]

section
variable {members : Vector MemberEntry 16} {epoch : Word16}

/-- The age of a station's join epoch (R66). -/
def ageIn (members : Vector MemberEntry 16) (epoch : Word16) (i : StationId) : Nat :=
  ageOf epoch (entryAt members i).joinEpoch

/-- The head of a list of candidates in join queue order: the greatest age, and the lowest number where ages are equal
(R66). -/
def IsOldest (members : Vector MemberEntry 16) (epoch : Word16) (l : List StationId) (x : StationId) : Prop :=
  x ∈ l ∧ ∀ i ∈ l, i ≠ x →
    ageIn members epoch i < ageIn members epoch x ∨ (ageIn members epoch i = ageIn members epoch x ∧ x < i)

theorem IsOldest.unique {l : List StationId} {x y : StationId} (hx : IsOldest members epoch l x)
    (hy : IsOldest members epoch l y) : x = y := by
  by_contra h
  have hyx := hx.2 y hy.1 (Ne.symm h)
  have hxy := hy.2 x hx.1 h
  rcases hyx with hyx | ⟨hage, hyx⟩
  · omega
  · exact hxy.elim (by omega) fun hxy => lt_asymm hyx hxy.2

/-- Taking the candidates one by one, lowest number first, ends with the head of the queue. -/
theorem foldl_olderOf_spec (l : List StationId) (hl : l.Pairwise (· < ·)) :
    (l.foldl (olderOf members epoch) none = none ↔ l = []) ∧
      ∀ x, l.foldl (olderOf members epoch) none = some x → IsOldest members epoch l x := by
  induction l using List.reverseRecOn with
  | nil => simp
  | append_singleton l a ih =>
    obtain ⟨hl, -, hlast⟩ := List.pairwise_append.mp hl
    obtain ⟨hnone, hsome⟩ := ih hl
    rw [List.foldl_concat]
    cases hb : l.foldl (olderOf members epoch) none with
    | none =>
      obtain rfl := hnone.mp hb
      simp [olderOf, IsOldest]
    | some b =>
      obtain ⟨hmem, hbest⟩ := hsome b hb
      have hba : b < a := hlast b hmem a (List.mem_singleton_self a)
      have hage (i : StationId) (hi : i ∈ l) : ageIn members epoch i ≤ ageIn members epoch b := by
        by_cases hib : i = b
        · rw [hib]
        · have := hbest i hi hib
          omega
      have holder : olderOf members epoch (some b) a =
          if ageIn members epoch b < ageIn members epoch a then some a else some b := rfl
      rw [holder]
      split
      · rename_i hlt
        refine ⟨by simp, ?_⟩
        rintro _ ⟨⟩
        refine ⟨by simp, fun i hi hia => .inl ?_⟩
        have hil : i ∈ l := by simpa [hia] using hi
        exact (hage i hil).trans_lt hlt
      · rename_i hle
        refine ⟨by simp, ?_⟩
        rintro _ ⟨⟩
        refine ⟨List.mem_append_left _ hmem, fun i hi hib => ?_⟩
        rcases List.mem_append.mp hi with hi | hi
        · exact hbest i hi hib
        · obtain rfl := List.mem_singleton.mp hi
          exact (lt_or_eq_of_le (not_lt.mp hle)).imp_right fun hage => ⟨hage, hba⟩

variable {p : StationId → Bool}

theorem mem_candidates {i : StationId} :
    i ∈ allStations.filter (fun i => statusIn members i == .joining && p i) ↔
      statusIn members i = .joining ∧ p i = true := by
  simp [mem_allStations]

theorem oldestJoining_eq_none_iff :
    oldestJoining members epoch p = none ↔ ∀ i, ¬ (statusIn members i = .joining ∧ p i = true) := by
  have hsorted : (allStations.filter (fun i => statusIn members i == .joining && p i)).Pairwise (· < ·) :=
    (List.pairwise_lt_finRange 16).filter _
  refine (foldl_olderOf_spec _ hsorted).1.trans (List.eq_nil_iff_forall_not_mem.trans ?_)
  exact forall_congr' fun i => not_congr mem_candidates

theorem oldestJoining_eq_some_iff {x : StationId} :
    oldestJoining members epoch p = some x ↔
      (statusIn members x = .joining ∧ p x = true) ∧
        ∀ i, (statusIn members i = .joining ∧ p i = true) → i ≠ x →
          ageIn members epoch i < ageIn members epoch x ∨ (ageIn members epoch i = ageIn members epoch x ∧ x < i) := by
  have hsorted : (allStations.filter (fun i => statusIn members i == .joining && p i)).Pairwise (· < ·) :=
    (List.pairwise_lt_finRange 16).filter _
  obtain ⟨hnone, hsome⟩ := foldl_olderOf_spec (members := members) (epoch := epoch) _ hsorted
  have holdest : IsOldest members epoch (allStations.filter (fun i => statusIn members i == .joining && p i)) x ↔
      (statusIn members x = .joining ∧ p x = true) ∧
        ∀ i, (statusIn members i = .joining ∧ p i = true) → i ≠ x →
          ageIn members epoch i < ageIn members epoch x ∨
            (ageIn members epoch i = ageIn members epoch x ∧ x < i) := by
    simp only [IsOldest, mem_candidates]
  rw [← holdest]
  refine ⟨hsome x, fun hx => ?_⟩
  cases hy : oldestJoining members epoch p with
  | none =>
    rw [hnone.mp hy] at hx
    exact absurd hx.1 List.not_mem_nil
  | some y => exact congrArg some ((hsome y hy).unique hx)

end

/-- Settles O53: the fold over the candidates ends with the head of the queue, and the donor is the first ACTIVE one. -/
theorem joinQueueAndDonor : Obligations.JoinQueueAndDonor := by
  intro members epoch p x age stands
  refine ⟨oldestJoining_eq_some_iff, oldestJoining_eq_none_iff, donorOf_eq_some_iff.trans ?_⟩
  refine and_congr_right fun _ => forall_congr' fun i => ?_
  rw [← not_lt]
  exact imp_not_comm

end Sys2Proof.Machine
end

section
/-! SUPPORT. The operations that several blocks share, each said once as the state it leaves: a source's withdrawal, the
voiding of the intents, and the parts and the whole of each departure. -/

namespace Sys2Proof.Machine

/-! ### Withdrawal (R136) -/

/-- The selector once a source has withdrawn the offered frame, where it passes the test and is off the wire. -/
def Selector.without (x : Selector) (p : Offered → Bool) : Selector :=
  match x.offered with
  | some f => if p f && !x.onWire then { x with offered := none } else x
  | none => x

/-- The offer record of the Intent Unit beside that withdrawal: emptied with a frame of its own. -/
def State.offerWithout (s : State) (p : Offered → Bool) : Option OfferRecord :=
  match s.sel.offered with
  | some f => if p f && !s.sel.onWire && f.source == .intents then none else s.intents.offer
  | none => s.intents.offer

theorem Selector.without_of_onWire {x : Selector} (h : x.onWire = true) (p : Offered → Bool) : x.without p = x := by
  unfold Selector.without
  split <;> simp [h]

theorem Selector.without_of_none {x : Selector} (h : x.offered = none) (p : Offered → Bool) : x.without p = x := by
  simp [Selector.without, h]

theorem Selector.without_of_some {x : Selector} {f : Offered} (h : x.offered = some f) (hwire : x.onWire = false)
    (p : Offered → Bool) : x.without p = if p f then { x with offered := none } else x := by
  simp [Selector.without, h, hwire]

@[simp] theorem Selector.without_onWire (x : Selector) (p : Offered → Bool) : (x.without p).onWire = x.onWire := by
  unfold Selector.without
  split
  · split <;> rfl
  · rfl

@[simp] theorem Selector.without_yieldFlag (x : Selector) (p : Offered → Bool) :
    (x.without p).yieldFlag = x.yieldFlag := by
  unfold Selector.without
  split
  · split <;> rfl
  · rfl

@[simp] theorem Selector.without_yieldWait (x : Selector) (p : Offered → Bool) :
    (x.without p).yieldWait = x.yieldWait := by
  unfold Selector.without
  split
  · split <;> rfl
  · rfl

@[simp] theorem Selector.initial_without (p : Offered → Bool) : Selector.initial.without p = .initial := rfl

theorem withdraw_eq (s : State) (p : Offered → Bool) :
    s.withdraw p =
      { s with sel := s.sel.without p, intents := { s.intents with offer := s.offerWithout p } } := by
  unfold State.withdraw Selector.without State.offerWithout
  cases hf : s.sel.offered with
  | none => rfl
  | some f =>
    dsimp only
    cases hw : s.sel.onWire with
    | true => simp
    | false =>
      cases hp : p f with
      | false => simp
      | true =>
        have hsel : s.sel.removeOffer = { s.sel with offered := none } := by
          simp [Selector.removeOffer, hw]
        by_cases hs : f.source = .intents
        · simp [hs, hsel, hw, State.setSel, State.forgetOffer, State.setIntents]
        · simp [hs, hsel, hw, State.setSel]

theorem offerWithout_of_source {s : State} {p : Offered → Bool} (hp : ∀ f, p f = true → f.source ≠ .intents) :
    s.offerWithout p = s.intents.offer := by
  unfold State.offerWithout
  split
  · rename_i f _
    refine if_neg fun h => ?_
    simp only [Bool.and_eq_true, beq_iff_eq] at h
    exact hp f h.1.1 h.2
  · rfl

theorem offerWithout_of_onWire {s : State} (h : s.sel.onWire = true) (p : Offered → Bool) :
    s.offerWithout p = s.intents.offer := by
  unfold State.offerWithout
  split <;> simp [h]

/-- A withdrawal by the Station Controller or the Transfer Unit leaves the Intent Unit as it is. -/
theorem withdraw_of_source {p : Offered → Bool} (hp : ∀ f, p f = true → f.source ≠ .intents) (s : State) :
    s.withdraw p = { s with sel := s.sel.without p } := by
  rw [withdraw_eq, offerWithout_of_source hp]

/-- A frame on the wire cannot be withdrawn (R136). -/
theorem withdraw_of_onWire {s : State} (h : s.sel.onWire = true) (p : Offered → Bool) : s.withdraw p = s := by
  rw [withdraw_eq, Selector.without_of_onWire h, offerWithout_of_onWire h]

theorem withdraw_of_none {s : State} (h : s.sel.offered = none) (p : Offered → Bool) : s.withdraw p = s := by
  rw [withdraw_eq, Selector.without_of_none h, State.offerWithout, h]

/-! ### Voiding (R154) -/

/-- The event queue after the LOST events of a voiding, in ascending lock order. -/
def State.lossEvents (s : State) : EventQueue :=
  (allLocks.filter (fun l => (s.intent l).state ≠ .idle)).foldl (fun q l => q.place (.lock l .lost)) s.events

theorem raiseLosses_eq (s : State) : s.raiseLosses = { s with events := s.lossEvents } := by
  have hfold (ls : List LockId) (t : State) :
      ls.foldl (fun t l => t.raiseLock l .lost) t =
        { t with events := ls.foldl (fun q l => q.place (.lock l .lost)) t.events } := by
    induction ls generalizing t with
    | nil => rfl
    | cons l ls ih => exact ih _
  have hfilter : allLocks.filter (fun l => (s.intent l).state != .idle) =
      allLocks.filter (fun l => (s.intent l).state ≠ .idle) :=
    List.filter_congr fun l _ => by rw [bne, Bool.beq_eq_decide_eq, decide_not]
  rw [State.raiseLosses, hfold, hfilter]
  rfl

theorem voidIntents_eq (s : State) :
    s.voidIntents =
      { s with sel := s.sel.without (·.source == .intents), events := s.lossEvents, intents := .initial } := by
  rw [State.voidIntents, withdraw_eq, raiseLosses_eq]
  rfl

/-! ### Parts of a departure -/

theorem dropControl_eq (s : State) :
    s.dropControl = { s with sel := s.sel.without (·.source == .controller), ctrl := s.ctrl.clearPending } := by
  unfold State.dropControl
  rw [withdraw_of_source (fun f hf => by rw [beq_iff_eq.mp hf]; decide)]
  rfl

theorem dropTransfers_eq (s : State) :
    s.dropTransfers = { s with sel := s.sel.without (·.source == .transfer), transfer := .initial } := by
  unfold State.dropTransfers
  rw [withdraw_of_source (fun f hf => by rw [beq_iff_eq.mp hf]; decide)]
  rfl

theorem closeLog_eq (s : State) :
    s.closeLog =
      { s with
        transfer := s.transfer.closeLog, table := if s.transfer.phase = .loading then .discarded else s.table } := by
  unfold State.closeLog
  dsimp only
  split <;> rfl

theorem abortFrame_eq (s : State) :
    s.abortFrame =
      { s with line := s.line.abort, sel := .initial, commit := { s.commit with drive := .empty } } := rfl

theorem abort_eq (u : LineUnit) :
    u.abort = match u.tx with
      | .slots | .ending => { u with aborted := true, fixed := none }
      | _ => { u with tx := .idle, fixed := none } := by
  obtain ⟨rate, tx, aborted, fixed, bitFault, rx, reception, assembly, dominant⟩ := u
  cases tx <;> rfl

/-! ### Departures -/

theorem enterFault_eq (s : State) (cause : FaultCause) :
    s.enterFault cause =
      { s with
        line := s.line.abort
        commit := { epoch := none, failures := s.commit.failures, lastFault := cause, drive := .empty }
        table := .discarded
        transfer := .initial
        ctrl :=
          { Controller.initial s.ctrl.id with
            station := .fault, attempts := s.ctrl.attempts, p := s.ctrl.p, k := s.ctrl.k, jmul := s.ctrl.jmul }
        intents := .initial
        sel := .initial
        events := s.lossEvents.place (.station (.fault cause)) } := by
  unfold State.enterFault
  rw [abortFrame_eq, voidIntents_eq, dropTransfers_eq]
  rfl

theorem detach_eq (s : State) :
    s.detach =
      { s with
        line := s.line.abort
        commit := { s.commit with epoch := none, failures := 0, drive := .empty }
        table := .discarded
        transfer := .initial
        ctrl := { Controller.initial s.ctrl.id with p := s.ctrl.p, k := s.ctrl.k, jmul := s.ctrl.jmul }
        intents := .initial
        sel := .initial
        events := s.lossEvents } := by
  unfold State.detach
  rw [abortFrame_eq, voidIntents_eq, dropTransfers_eq]
  rfl

/-- The selector once every source has withdrawn its frame, as a departure orders it. -/
def Selector.withoutAll (x : Selector) : Selector :=
  ((x.without (·.source == .intents)).without (·.source == .transfer)).without (·.source == .controller)

theorem Selector.withoutAll_of_onWire {x : Selector} (h : x.onWire = true) : x.withoutAll = x := by
  simp [Selector.withoutAll, Selector.without_of_onWire h]

/-- Every frame has its source, so off the wire nothing stays on offer. -/
theorem Selector.withoutAll_of_not_onWire {x : Selector} (h : x.onWire = false) :
    x.withoutAll = { x with offered := none } := by
  unfold Selector.withoutAll
  cases hf : x.offered with
  | none =>
    simp only [Selector.without_of_none hf]
    cases x
    simp_all
  | some f =>
    cases hs : f.source <;> simp [Selector.without, hf, h, hs]

theorem fallOutOfStep_eq (s : State) :
    s.fallOutOfStep =
      { s with
        commit := { s.commit with epoch := none, failures := 0 }
        table := .discarded
        transfer := .initial
        ctrl :=
          { Controller.initial s.ctrl.id with
            station := .seeking, attempts := 1, control := some .join, contact := s.ctrl.contact,
            p := s.ctrl.p, k := s.ctrl.k, jmul := s.ctrl.jmul }
        intents := .initial
        sel := s.sel.withoutAll.clearYield
        events := s.lossEvents.place (.station .outOfStep) } := by
  unfold State.fallOutOfStep
  rw [voidIntents_eq, dropTransfers_eq, dropControl_eq]
  rfl

/-- The selector after a station's own departure: the intents' frame has been withdrawn by the purge before. -/
def Selector.departed (x : Selector) : Selector :=
  ((x.without (·.source == .transfer)).without (·.source == .controller)).clearYield

theorem depart_eq (s : State) :
    s.depart =
      { s with
        commit := { s.commit with epoch := none }
        table := .discarded
        transfer := .initial
        ctrl := { Controller.initial s.ctrl.id with
          contact := s.ctrl.contact, p := s.ctrl.p, k := s.ctrl.k, jmul := s.ctrl.jmul }
        sel := s.sel.departed
        events := s.events.place (.station .left) } := by
  unfold State.depart
  rw [dropTransfers_eq, dropControl_eq]
  rfl

theorem evictedActive_eq (s : State) :
    s.evictedActive =
      { s with
        commit := { s.commit with epoch := none }
        table := .discarded
        transfer := .initial
        ctrl := { Controller.initial s.ctrl.id with
          station := .seeking, control := some .join, attempts := 1, leavePending := s.ctrl.leavePending,
          contact := s.ctrl.contact, p := s.ctrl.p, k := s.ctrl.k, jmul := s.ctrl.jmul }
        sel := s.sel.departed
        events := s.events.place (.station .evicted) } := by
  unfold State.evictedActive
  rw [dropTransfers_eq, dropControl_eq]
  rfl

/-- The part that a re-queue of JOIN and the giving up of a join share. -/
theorem leaveJoin_eq (s : State) :
    s.dropControl.closeLog.discardTable =
      { s with
        sel := s.sel.without (·.source == .controller), ctrl := s.ctrl.clearPending, transfer := s.transfer.closeLog,
        table := .discarded, commit := { s.commit with epoch := none } } := by
  rw [dropControl_eq, closeLog_eq]
  rfl

theorem giveUpJoin_eq (s : State) :
    s.giveUpJoin =
      { s with
        commit := { s.commit with epoch := none, drive := .empty }
        table := .discarded
        transfer := s.transfer.closeLog
        ctrl :=
          { Controller.initial s.ctrl.id with
            attempts := s.ctrl.attempts, p := s.ctrl.p, k := s.ctrl.k, jmul := s.ctrl.jmul }
        sel := s.sel.without (·.source == .controller)
        events := s.events.place (.station .joinFailed) } := by
  unfold State.giveUpJoin
  rw [leaveJoin_eq]
  rfl

theorem requeueJoin_of_limit {s : State} (h : 4 ≤ s.ctrl.attempts) : s.requeueJoin = s.giveUpJoin := if_pos h

theorem requeueJoin_of_lt {s : State} (h : s.ctrl.attempts < 4) :
    s.requeueJoin =
      { s with
        commit := { s.commit with epoch := none }
        table := .discarded
        transfer := s.transfer.closeLog
        ctrl :=
          { s.ctrl with
            station := .seeking, control := some .join, attempts := s.ctrl.attempts + 1, evicts := 0,
            presencePending := false, firstContact := .stopped, joinDeadline := .stopped, deadlineHeld := false,
            contact := false }
        sel := s.sel.without (·.source == .controller) } := by
  unfold State.requeueJoin
  rw [if_neg (by simpa using h), leaveJoin_eq]
  rfl

/-- A JOIN re-queued or a join given up changes neither the Intent Unit nor the Line Unit nor the port, and discards the
table. -/
theorem requeueJoin_shape (s : State) :
    s.requeueJoin =
      { s with
        commit := { s.commit with epoch := none, drive := if s.ctrl.attempts < 4 then s.commit.drive else .empty }
        table := .discarded
        transfer := s.transfer.closeLog
        ctrl := s.requeueJoin.ctrl
        sel := s.sel.without (·.source == .controller)
        events := if s.ctrl.attempts < 4 then s.events else s.events.place (.station .joinFailed) } := by
  by_cases h : s.ctrl.attempts < 4
  · rw [requeueJoin_of_lt h, if_pos h, if_pos h]
  · rw [requeueJoin_of_limit (not_lt.mp h), giveUpJoin_eq, if_neg h, if_neg h]

/-! ### DETACH and entry into FAULT -/

theorem exec_detach_of_takes {s : State} {check : Byte} (htakes : s.Takes 0x05 [] check) :
    exec (.detach check) s = .next (s.detachCommand.answered [0x05] [0x00]) := by
  have htake (x : HostPort) : (s.setPort x).take .detach =
      ((s.take .detach).1, (s.take .detach).2.1, (s.take .detach).2.2.setPort x) := by
    unfold State.take State.detachCommand
    dsimp only
    rw [State.setPort_ctrl]
    split
    · rfl
    · rw [detach_eq, detach_eq]
      rfl
  exact congrArg Host.Outcome.next (State.commandRow_eq_answered htakes rfl htake)

/-- Settles O16: the state that `detach` leaves, field by field. -/
theorem detachGivesUpThePlace : Obligations.DetachGivesUpThePlace := by
  intro check s htakes
  rw [exec_detach_of_takes htakes]
  refine ⟨fun h => ?_, fun h => ⟨_, rfl, ?_⟩⟩
  · rw [State.detachCommand, if_pos h]
  · rw [State.detachCommand, if_neg h, detach_eq]
    refine ⟨rfl, rfl, rfl, rfl, rfl, rfl, rfl, rfl, ?_, rfl, rfl, rfl⟩
    exact abort_eq s.line

/-- Settles O34: a stretch found stuck once, and the state that entry into FAULT leaves, field by field. -/
theorem stuckLineLeadsToFault : Obligations.StuckLineLeadsToFault := by
  refine ⟨?_, fun cause s => ⟨_, rfl, ?_⟩⟩
  · intro s hreset stuck
    have harm : exec .lineStuck s = .next s.lineStuck := by
      have : exec .lineStuck s = execLineStuck s := rfl
      rw [this, execLineStuck, State.unlessReset, hreset]
      rfl
    have hlt (h : s.line.dominant < 32) :
        s.lineStuck = if s.ctrl.station.silent then stuck else stuck.enterFault .lineStuck := if_neg (not_le.mpr h)
    rw [harm]
    refine ⟨fun h => congrArg _ (if_pos h), fun h hs => ?_, fun h hs => ?_⟩
    · rw [hlt h, if_pos hs]
    · rw [hlt h, hs]
      rfl
  · rw [enterFault_eq]
    refine ⟨rfl, rfl, rfl, rfl, rfl, rfl, rfl, ?_, rfl⟩
    exact abort_eq s.line

end Sys2Proof.Machine
end

section
/-! SUPPORT. What the outcome notices and the other operations leave of the blocks that are not theirs; and the lock table,
which every step keeps lawful. -/

namespace Sys2Proof.Machine

/-! ### Notices -/

/-- The blocks that the Intent Unit's operations leave alone: all but the Intent Unit, the Transmit Selector, the Event
Queue and the counter of free values. -/
structure Notified (s t : State) : Prop where
  inReset  : t.inReset = s.inReset
  ncsLow   : t.ncsLow = s.ncsLow
  line     : t.line = s.line
  commit   : t.commit = s.commit
  table    : t.table = s.table
  transfer : t.transfer = s.transfer
  ctrl     : t.ctrl = s.ctrl
  port     : t.port = s.port
  pending  : t.pending = s.pending

section
variable {s t u : State}

theorem Notified.refl (s : State) : Notified s s := ⟨rfl, rfl, rfl, rfl, rfl, rfl, rfl, rfl, rfl⟩

/-- What the Intent Unit's operations replace. -/
theorem notified_over (x : IntentUnit) (y : Selector) (q : EventQueue) (n : Nat) :
    Notified s { s with intents := x, sel := y, events := q, free := n } := ⟨rfl, rfl, rfl, rfl, rfl, rfl, rfl, rfl, rfl⟩

theorem Notified.trans (h : Notified s t) (g : Notified t u) : Notified s u where
  inReset := g.inReset.trans h.inReset
  ncsLow := g.ncsLow.trans h.ncsLow
  line := g.line.trans h.line
  commit := g.commit.trans h.commit
  table := g.table.trans h.table
  transfer := g.transfer.trans h.transfer
  ctrl := g.ctrl.trans h.ctrl
  port := g.port.trans h.port
  pending := g.pending.trans h.pending

/-- The state after such operations, written over the one before. -/
theorem Notified.eq (h : Notified s t) :
    t = { s with intents := t.intents, sel := t.sel, events := t.events, free := t.free } := by
  obtain ⟨h1, h2, h3, h4, h5, h6, h7, h8, h9⟩ := h
  cases t
  cases s
  simp only at h1 h2 h3 h4 h5 h6 h7 h8 h9
  subst h1 h2 h3 h4 h5 h6 h7 h8 h9
  rfl

theorem notified_withdraw (p : Offered → Bool) : Notified s (s.withdraw p) := by
  rw [withdraw_eq]
  exact notified_over _ _ _ _

theorem notified_dropFrames (l : LockId) : Notified s (s.dropFrames l) :=
  (notified_over _ _ _ _).trans (notified_withdraw _)

theorem notified_endIntent (l : LockId) (o : LockOutcome) : Notified s (s.endIntent l o) :=
  (notified_dropFrames l).trans (notified_over _ _ _ _)

theorem notified_holdIntent (l : LockId) (m : Mode) (token : Word16) (overtaken : Bool) :
    Notified s (s.holdIntent l m token overtaken) := by
  unfold State.holdIntent
  dsimp only
  split <;> exact notified_over _ _ _ _

theorem notified_ownOutcome (l : LockId) (o : RequestOutcome) : Notified s (s.ownOutcome l o) := by
  cases o with
  | granted m token =>
    show Notified s (s.grantNotice l m token)
    unfold State.grantNotice
    dsimp only
    split
    · exact (notified_withdraw _).trans (notified_holdIntent _ _ _ _)
    all_goals exact notified_holdIntent _ _ _ _
  | queued m n =>
    show Notified s (s.queuedNotice l m n)
    unfold State.queuedNotice
    dsimp only
    split
    · exact notified_over _ _ _ _
    · exact notified_over _ _ _ _
    · exact notified_endIntent l _
  | denied =>
    show Notified s (s.deniedNotice l)
    unfold State.deniedNotice
    split <;> exact notified_endIntent l _
  | released =>
    show Notified s (s.releasedNotice l)
    unfold State.releasedNotice
    split <;> exact notified_endIntent l _
  | cancelled =>
    show Notified s (s.cancelledNotice l)
    unfold State.cancelledNotice
    split <;> exact notified_endIntent l _
  | duplicate => exact notified_endIntent l _
  | releaseNoop => exact notified_endIntent l _
  | cancelVoid => exact notified_endIntent l _

theorem notified_voidIntents : Notified s s.voidIntents := by
  rw [voidIntents_eq]
  exact notified_over _ _ _ _

theorem notified_takeNotice (n : LockNotice) : Notified s (s.takeNotice n) := by
  cases n with
  | own l o => exact notified_ownOutcome l o
  | grant l m token => exact notified_ownOutcome l (.granted m token)
  | selfPurged => exact notified_voidIntents

theorem notified_takeNotices (ns : List LockNotice) : Notified s (s.takeNotices ns) := by
  induction ns generalizing s with
  | nil => exact Notified.refl s
  | cons n ns ih => exact (notified_takeNotice n).trans ih

theorem notified_recordOffer (f : Offered) (w : Bool) : Notified s (s.recordOffer f w) := by
  unfold State.recordOffer State.placeCancel
  dsimp only
  split
  · split <;> exact notified_over _ _ _ _
  · exact notified_over _ _ _ _

theorem notified_intentOfferEnd (f : Offered) (r : OfferEnd) : Notified s (s.intentOfferEnd f r) := by
  have kept : Notified s (s.intentOfferKept f) := by
    unfold State.intentOfferKept
    have h : Notified s (s.recordOffer f false) := notified_recordOffer f false
    dsimp only
    split
    · split
      · exact h.trans (notified_endIntent _ _)
      · exact h
    · split
      · exact h
      · exact (h.trans (notified_withdraw _)).trans (notified_over _ _ _ _)
    · exact h
  cases r with
  | lost => exact kept
  | retry => exact kept
  | passed =>
    show Notified s (s.intentOfferPassed f)
    unfold State.intentOfferPassed
    dsimp only
    split <;> exact notified_over _ _ _ _
  | dropped => exact notified_over _ _ _ _

/-! ### What each operation makes of the lock table -/

/-- An operation keeps the laws of the lock table. -/
def State.KeepsLocks (s t : State) : Prop := s.table.Lawful → t.table.Lawful

theorem keepsLocks_of_eq (h : t.table = s.table) : s.KeepsLocks t := fun hs => h.symm ▸ hs

theorem keepsLocks_of_discarded (h : t.table = .discarded) : s.KeepsLocks t := fun _ => h.symm ▸ lawful_discarded

theorem State.KeepsLocks.trans (h : s.KeepsLocks t) (g : t.KeepsLocks u) : s.KeepsLocks u := g ∘ h

theorem keepsLocks_setSel (x : Selector) : s.KeepsLocks (s.setSel x) := keepsLocks_of_eq rfl

theorem keepsLocks_setCommit (x : CommitUnit) : s.KeepsLocks (s.setCommit x) := keepsLocks_of_eq rfl

theorem Notified.keepsLocks (h : Notified s t) : s.KeepsLocks t := keepsLocks_of_eq h.table

theorem keepsLocks_enterFault (cause : FaultCause) : s.KeepsLocks (s.enterFault cause) :=
  keepsLocks_of_discarded (by rw [enterFault_eq])

theorem keepsLocks_detachCommand : s.KeepsLocks s.detachCommand := by
  unfold State.detachCommand
  split
  · exact keepsLocks_of_eq rfl
  · exact keepsLocks_of_discarded (by rw [detach_eq])

theorem requeueJoin_table (s : State) : s.requeueJoin.table = .discarded := by rw [requeueJoin_shape]

theorem keepsLocks_requeueJoin : s.KeepsLocks s.requeueJoin := keepsLocks_of_discarded (requeueJoin_table s)

theorem keepsLocks_closeLog : s.KeepsLocks s.closeLog := by
  by_cases h : s.transfer.phase = .loading
  · exact keepsLocks_of_discarded (by rw [closeLog_eq, if_pos h])
  · exact keepsLocks_of_eq (by rw [closeLog_eq, if_neg h])

theorem keepsLocks_ownEviction : s.KeepsLocks s.ownEviction := by
  unfold State.ownEviction
  split
  · split
    · exact keepsLocks_of_discarded (by rw [depart_eq])
    · exact keepsLocks_of_discarded (by rw [evictedActive_eq])
  · exact keepsLocks_requeueJoin
  · exact keepsLocks_requeueJoin
  · exact keepsLocks_requeueJoin
  all_goals exact keepsLocks_of_eq rfl

theorem withdraw_table (s : State) (p : Offered → Bool) : (s.withdraw p).table = s.table :=
  (notified_withdraw p).table

theorem abandonFounding_table (s : State) : s.abandonFounding.table = s.table := withdraw_table _ _

theorem withdrawEvict_table (s : State) (x : StationId) : (s.withdrawEvict x).table = s.table := by
  unfold State.withdrawEvict
  split
  · rfl
  · exact withdraw_table _ _

/-- A heard notice touches no table (R28). -/
theorem heard_table (s : State) (x : StationId) (k : Kind) : (s.heard x k).table = s.table := by
  unfold State.heard
  split
  · unfold State.heardActive
    dsimp only
    split
    · exact withdrawEvict_table s x
    · exact withdrawEvict_table s x
  · split <;> rfl
  · split
    · exact abandonFounding_table s
    · rfl
  all_goals rfl

theorem peerNotice_table (s : State) (n : MemberNotice) : (s.peerNotice n).table = s.table := by
  unfold State.peerNotice
  split
  · exact withdrawEvict_table s _
  · split
    · exact withdrawEvict_table s _
    · split <;> rfl

theorem keepsLocks_memberNotice (n : MemberNotice) : s.KeepsLocks (s.memberNotice n) := by
  unfold State.memberNotice
  split
  · have hown : s.KeepsLocks (if n.station = s.ctrl.id then s.ownNotice n else s.peerNotice n) := by
      split
      · unfold State.ownNotice
        split
        · exact keepsLocks_of_discarded (by rw [depart_eq])
        · exact keepsLocks_ownEviction
        · exact keepsLocks_of_eq rfl
      · exact keepsLocks_of_eq (peerNotice_table s n)
    have raise {t : State} (b : Bool) (h : s.KeepsLocks t) : s.KeepsLocks (if b then t.raiseMembersChanged else t) := by
      split
      · exact h
      · exact h
    exact raise _ hown
  · split
    · split
      · split <;> exact keepsLocks_of_eq rfl
      · exact keepsLocks_ownEviction
      · exact keepsLocks_of_eq rfl
    · exact keepsLocks_of_eq rfl
  all_goals exact keepsLocks_of_eq rfl

theorem keepsLocks_rejoinNewGroup : s.KeepsLocks s.rejoinNewGroup :=
  keepsLocks_closeLog.trans (keepsLocks_of_eq rfl)

theorem keepsLocks_commitGenesis (own : Bool) : s.KeepsLocks (s.commitGenesis own) := by
  unfold State.commitGenesis
  split
  · exact fun _ => lawful_freshLocks rfl
  · unfold State.otherGenesis
    split
    · split
      · exact keepsLocks_of_eq rfl
      · exact keepsLocks_rejoinNewGroup
    · exact keepsLocks_of_eq (abandonFounding_table s)
    · exact keepsLocks_rejoinNewGroup
    all_goals exact keepsLocks_of_eq rfl

theorem keepsLocks_applyCommit (x : StationId) (c : Change) : s.KeepsLocks (s.applyCommit x c) := by
  intro hs
  unfold State.applyCommit
  have htable : ((s.setTable (applyChange s.ctrl.id s.epochAfter x c s.table).table).takeNotices
      (applyChange s.ctrl.id s.epochAfter x c s.table).notices).table.Lawful := by
    rw [(notified_takeNotices _).table]
    exact lawful_applyChange hs _ c
  dsimp only
  split
  · exact keepsLocks_memberNotice _ htable
  · exact htable

theorem evaluateDonor_table (s : State) : s.evaluateDonor.table = s.table := by
  have test (s : State) : s.testTransfer.table = s.table := by
    unfold State.testTransfer
    split
    · split
      · exact withdraw_table s _
      · rfl
    · rfl
  have start (s : State) : s.startTransfer.table = s.table := by
    unfold State.startTransfer
    split
    · split <;> rfl
    · rfl
  exact (start _).trans (test _)

theorem segmentAccepted_table (s : State) : s.segmentAccepted.table = s.table := by
  unfold State.segmentAccepted
  split
  · split
    · rfl
    · exact evaluateDonor_table _
  · rfl

theorem keepsLocks_logCommit (r : LogRecord) : s.KeepsLocks (s.logCommit r) := by
  unfold State.logCommit
  split
  · exact keepsLocks_of_eq rfl
  · split
    · exact keepsLocks_ownEviction
    · split
      · exact keepsLocks_requeueJoin
      · unfold State.appendRecord
        dsimp only
        split
        · split
          · exact keepsLocks_of_discarded rfl
          · exact keepsLocks_of_eq rfl
        · exact keepsLocks_of_eq rfl

theorem keepsLocks_logGap : s.KeepsLocks s.logGap := by
  unfold State.logGap
  split
  · exact keepsLocks_of_eq rfl
  · exact keepsLocks_requeueJoin

/-! ### Loading -/

theorem lawful_loadPair {t u : TableEngine} {pair : Fin 32} {a b : LockEntry} (h : t.Lawful)
    (hload : loadPair t pair a b = some u) : u.Lawful := by
  unfold loadPair at hload
  split at hload
  · rename_i hcheck
    rw [Bool.and_eq_true, loadCheck_iff, loadCheck_iff] at hcheck
    obtain rfl := Option.some.inj hload
    intro l
    show (entryAt (setEntry (setEntry t.locks _ a) _ b) l).Lawful t.members
    rw [entryAt_setEntry, entryAt_setEntry]
    split
    · exact hcheck.2
    · split
      · exact hcheck.1
      · exact h l
  · cases hload

theorem keepsLocks_replay (log : List LogRecord) : s.KeepsLocks (s.replay log) := by
  induction log generalizing s with
  | nil => exact keepsLocks_of_eq rfl
  | cons r log ih => exact (keepsLocks_applyCommit r.sender r.change).trans ih

theorem keepsLocks_completeReception (e : Word16) : s.KeepsLocks (s.completeReception e) := by
  intro hs
  exact keepsLocks_replay (s := (s.setTable { s.table with validity := .complete }).setCommit
    { s.commit with epoch := some e }) s.transfer.log hs

theorem keepsLocks_loadSegment0 (x : StationId) (e j : Word16) (ms : Vector MemberEntry 16) :
    s.KeepsLocks (s.loadSegment0 x e j ms) := by
  unfold State.loadSegment0
  dsimp only
  split
  · exact fun _ => lawful_freshLocks rfl
  · exact keepsLocks_of_discarded (requeueJoin_table _)

theorem keepsLocks_takeSegment (x : StationId) (e j : Word16) (g : Segment) : s.KeepsLocks (s.takeSegment x e j g) := by
  have load (cur : Transfer) (pair : Fin 32) (a b : LockEntry) : s.KeepsLocks (s.loadLocks cur pair a b) := by
    unfold State.loadLocks
    split
    · rename_i t ht
      have hload : s.KeepsLocks (s.setTable t) := fun hs => lawful_loadPair hs ht
      dsimp only
      split
      · exact hload
      · exact hload.trans (keepsLocks_completeReception cur.e)
    · exact keepsLocks_of_discarded (requeueJoin_table _)
  unfold State.takeSegment
  split
  · exact keepsLocks_of_eq rfl
  · exact keepsLocks_loadSegment0 _ _ _ _
  · exact keepsLocks_of_eq rfl
  · exact keepsLocks_loadSegment0 _ _ _ _
  · unfold State.lockSegment
    split
    · split
      · exact load _ _ _ _
      · exact keepsLocks_of_eq rfl
    · exact keepsLocks_of_eq rfl

/-! ### The selector and one delivery -/

theorem driveSof_table (s : State) : s.driveSof.table = s.table := by
  unfold State.driveSof
  split
  · rfl
  · dsimp only
    split
    · exact (notified_recordOffer _ _).table
    · rfl

theorem choice_table (s : State) : s.choice.table = s.table := by
  have place (f : Offered) : (s.placeFrame f).table = s.table := by
    unfold State.placeFrame
    dsimp only
    split
    · exact (notified_recordOffer _ _).table
    · rfl
  unfold State.choice
  split
  · exact (driveSof_table _).trans (place _)
  · split <;> rfl

theorem choose_table (s : State) : s.choose.table = s.table := by
  unfold State.choose
  split
  · exact choice_table s
  · rfl

theorem keepsLocks_choose : s.KeepsLocks s.choose := keepsLocks_of_eq (choose_table s)

theorem keepsLocks_controlOfferEnd (f : Offered) (r : OfferEnd) : s.KeepsLocks (s.controlOfferEnd f r) := by
  have kept : s.KeepsLocks s.readyKept := by
    unfold State.readyKept
    split
    · exact keepsLocks_requeueJoin
    · exact keepsLocks_of_eq rfl
  unfold State.controlOfferEnd
  split
  case h_4 | h_5 => exact kept
  all_goals exact keepsLocks_of_eq rfl

theorem passedAtController_table (s : State) : s.passedAtController.table = s.table := by
  unfold State.passedAtController
  split
  · dsimp only
    split
    · rfl
    · exact withdraw_table _ _
  · rfl

theorem keepsLocks_endOffer (r : OfferEnd) : s.KeepsLocks (s.endOffer r) := by
  have report (s : State) (f : Offered) (r : OfferEnd) : s.KeepsLocks (s.reportEnd f r) := by
    unfold State.reportEnd
    split
    · exact keepsLocks_controlOfferEnd f r
    · exact keepsLocks_of_eq rfl
    · exact (notified_intentOfferEnd f r).keepsLocks
  have passed (f : Offered) : s.KeepsLocks (s.endPassed f) := by
    unfold State.endPassed
    dsimp only
    refine State.KeepsLocks.trans ?_ (keepsLocks_of_eq (passedAtController_table _))
    split
    · exact ((keepsLocks_setSel _).trans (keepsLocks_setSel _)).trans (report _ f .passed)
    · exact (keepsLocks_setSel _).trans (report _ f .passed)
  unfold State.endOffer
  split
  · exact keepsLocks_of_eq rfl
  · split
    · exact (keepsLocks_setSel _).trans (report _ _ .lost)
    · exact (keepsLocks_setSel _).trans (report _ _ .retry)
    · exact passed _
    · exact (keepsLocks_setSel _).trans (report _ _ .dropped)

theorem keepsLocks_stepApply (d : Delivery) : s.KeepsLocks (s.stepApply d) := by
  have commit (x : StationId) (c : Change) : s.KeepsLocks (s.commitChange x c) := by
    unfold State.commitChange
    split
    · exact keepsLocks_applyCommit x c
    · exact keepsLocks_logCommit _
  unfold State.stepApply
  split
  · unfold State.stepPassed
    split
    · exact keepsLocks_commitGenesis _
    · unfold State.acceptSegment
      split
      · exact keepsLocks_of_eq (segmentAccepted_table s)
      · split
        · exact keepsLocks_takeSegment _ _ _ _
        · exact keepsLocks_of_eq rfl
    · exact keepsLocks_of_eq rfl
    all_goals exact commit _ _
  · split
    · exact keepsLocks_of_eq rfl
    · exact keepsLocks_logGap
  · exact keepsLocks_of_eq rfl

theorem keepsLocks_stepReport (d : Delivery) (r : OfferEnd) : s.KeepsLocks (s.stepReport d r) := by
  unfold State.stepReport
  split
  · exact (keepsLocks_setCommit _).trans (keepsLocks_endOffer .passed)
  · unfold State.reportRetry
    split
    · exact (keepsLocks_setCommit _).trans (keepsLocks_endOffer .dropped)
    · exact (keepsLocks_setCommit _).trans (keepsLocks_endOffer .retry)
  · unfold State.reportDropped
    dsimp only
    split
    · exact (keepsLocks_endOffer .dropped).trans (keepsLocks_of_eq (abandonFounding_table _))
    · exact keepsLocks_endOffer .dropped
  · exact keepsLocks_of_eq rfl

theorem keepsLocks_deliver (d : Delivery) : s.KeepsLocks (s.deliver d) := by
  have hear : s.KeepsLocks (s.stepHeard d) := by
    unfold State.stepHeard
    split
    · split
      · exact keepsLocks_of_eq rfl
      · exact keepsLocks_of_eq (heard_table _ _ _)
    · exact keepsLocks_of_eq rfl
  have evaluate (s : State) (b : Bool) : s.KeepsLocks (s.stepEvaluate b) := by
    unfold State.stepEvaluate
    split
    · exact keepsLocks_of_eq (evaluateDonor_table s)
    · exact keepsLocks_of_eq rfl
  have leave (s : State) (a b : Bool) : s.KeepsLocks (s.stepLeave a b) := by
    unfold State.stepLeave
    split
    · exact keepsLocks_of_discarded (by rw [fallOutOfStep_eq])
    · split
      · exact keepsLocks_enterFault _
      · exact keepsLocks_of_eq rfl
  unfold State.deliver
  have h := (hear.trans (keepsLocks_stepApply d)).trans (evaluate _ (s.commitsAt d))
  dsimp only
  split
  · exact (h.trans (keepsLocks_stepReport _ _)).trans (leave _ _ _)
  · exact h.trans (leave _ _ _)

/-! ### Every row -/

theorem keepsLocks_unlessReset {f : State → State} (h : s.KeepsLocks (f s)) : s.KeepsLocks (s.unlessReset f) := by
  unfold State.unlessReset
  split
  · exact keepsLocks_of_eq rfl
  · exact h

theorem keepsLocks_atIdle {f : State → State} (h : s.KeepsLocks (f s)) : s.KeepsLocks (s.atIdle f) := by
  unfold State.atIdle
  split
  · unfold State.heldIdle
    split <;> exact keepsLocks_of_eq rfl
  · exact h

theorem keepsLocks_expire (x : Timer) {f : State → State} (h : s.KeepsLocks (f s)) : s.KeepsLocks (s.expire x f) := by
  unfold State.expire
  split
  · exact h.trans keepsLocks_choose
  · exact keepsLocks_of_eq rfl

theorem keepsLocks_thenChoose {r : StatusCode × State} (h : s.KeepsLocks r.2) : s.KeepsLocks (thenChoose r).2 := by
  unfold thenChoose
  split
  · exact h.trans keepsLocks_choose
  · exact h

/-- A taken command keeps the lock table, or discards it with the station's place. -/
theorem keepsLocks_take (c : HostCommand) : s.KeepsLocks (s.take c).2.2 := by
  cases c with
  | status => exact keepsLocks_of_eq rfl
  | configure p k jmul =>
    show s.KeepsLocks (s.configureCommand p k jmul).2
    unfold State.configureCommand
    split
    · exact keepsLocks_of_eq rfl
    · split <;> exact keepsLocks_of_eq rfl
  | enter =>
    show s.KeepsLocks s.enterCommand.2
    unfold State.enterCommand
    split
    · exact keepsLocks_of_eq rfl
    · dsimp only
      split
      · exact keepsLocks_of_discarded (by rw [enterFault_eq])
      · exact keepsLocks_of_eq (choose_table _)
  | leave =>
    refine keepsLocks_thenChoose (r := s.leaveCommand) ?_
    unfold State.leaveCommand
    split
    · exact keepsLocks_of_eq rfl
    · split
      · exact keepsLocks_of_eq rfl
      · split <;> exact keepsLocks_of_eq rfl
  | detach => exact keepsLocks_detachCommand
  | acquire lock mode limit =>
    refine keepsLocks_thenChoose (r := s.acquireCommand lock mode limit) ?_
    unfold State.acquireCommand
    split
    · exact keepsLocks_of_eq rfl
    · split
      · exact keepsLocks_of_eq rfl
      · split
        · split
          · exact keepsLocks_of_eq rfl
          · split
            · exact keepsLocks_of_eq rfl
            · dsimp only
              split <;> exact keepsLocks_of_eq rfl
        · exact keepsLocks_of_eq rfl
  | release lock =>
    refine keepsLocks_thenChoose (r := s.releaseCommand lock) ?_
    unfold State.releaseCommand
    split
    · exact keepsLocks_of_eq rfl
    · split
      · dsimp only
        split
        · exact keepsLocks_of_eq rfl
        · split <;> exact keepsLocks_of_eq rfl
      · exact keepsLocks_of_eq rfl
  | cancel lock =>
    refine keepsLocks_thenChoose (r := s.cancelCommand lock) ?_
    unfold State.cancelCommand
    split
    · exact keepsLocks_of_eq rfl
    · split
      · exact keepsLocks_of_eq rfl
      · split
        · exact keepsLocks_of_eq rfl
        · split
          · split <;> exact keepsLocks_of_eq rfl
          · exact (notified_endIntent _ _).keepsLocks
        all_goals exact keepsLocks_of_eq rfl
  | queryLock lock => exact keepsLocks_of_eq (by rw [take_queryLock_state])
  | queryMembers => exact keepsLocks_of_eq (by rw [take_queryMembers_state])
  | readEvent =>
    unfold State.take
    cases s.events.entries <;> exact keepsLocks_of_eq rfl

theorem keepsLocks_checkByte (code : Byte) (params : List Byte) (check : Byte) :
    s.KeepsLocks (s.checkByte code params check) := by
  unfold State.checkByte
  split
  · split
    · exact keepsLocks_take _
    · exact keepsLocks_of_eq rfl
  · exact keepsLocks_of_eq rfl

theorem keepsLocks_commandRow (code : Byte) (params : List Byte) (check : Byte) :
    s.KeepsLocks (s.commandRow code params check) := by
  unfold State.commandRow
  split
  · exact keepsLocks_checkByte (s := s.fillBuffer _) code params check
  · exact keepsLocks_of_eq rfl

theorem keepsLocks_byteComplete (sdi : Byte) : s.KeepsLocks (s.byteComplete sdi) := by
  unfold State.byteComplete
  split
  · exact keepsLocks_of_eq rfl
  · exact keepsLocks_of_eq rfl
  · unfold State.commandByte
    split
    · split <;> exact keepsLocks_of_eq rfl
    · split
      · exact keepsLocks_of_eq rfl
      · exact keepsLocks_checkByte _ _ _
  · exact keepsLocks_of_eq rfl
  · unfold State.responseByte
    split <;> exact keepsLocks_of_eq rfl

theorem keepsLocks_lineIdle : s.KeepsLocks s.lineIdle := by
  unfold State.lineIdle
  split
  · exact keepsLocks_of_eq rfl
  · unfold State.offerAtIdle
    split
    · exact keepsLocks_of_eq (driveSof_table (s.setLine _))
    · exact keepsLocks_of_eq (choice_table (s.setLine _))

theorem keepsLocks_busStart : s.KeepsLocks s.busStart := by
  unfold State.busStart
  split
  · split
    · exact keepsLocks_of_eq (driveSof_table s)
    · exact keepsLocks_of_eq rfl
  · exact keepsLocks_of_eq rfl

theorem keepsLocks_arbitrationLost : s.KeepsLocks s.arbitrationLost := by
  unfold State.arbitrationLost
  split
  · exact fun hs => keepsLocks_endOffer (s := s.setLine _) .lost hs
  · exact keepsLocks_of_eq rfl

theorem crcHandoff_table (s : State) (raw : RawFrame) : (s.crcHandoff raw).table = s.table := by
  unfold State.crcHandoff
  split
  · split
    · rfl
    · split <;> rfl
  · rfl

theorem errorFlag_table (s : State) (cause : FlagCause) : (s.errorFlag cause).table = s.table := by
  unfold State.errorFlag
  split
  · split
    · rfl
    · split
      · unfold State.flagFrame
        split <;> rfl
      · rfl
  · rfl

theorem keepsLocks_frameDelivery (slots : Slots) : s.KeepsLocks (s.frameDelivery slots) := by
  unfold State.frameDelivery
  split
  · exact keepsLocks_of_eq rfl
  · split
    · split
      · exact keepsLocks_of_eq rfl
      · exact fun hs => keepsLocks_deliver (s := s.takeDelivery slots) _ hs
    · exact keepsLocks_of_eq rfl

theorem keepsLocks_lineStuck : s.KeepsLocks s.lineStuck := by
  unfold State.lineStuck
  split
  · exact keepsLocks_of_eq rfl
  · dsimp only
    split
    · exact keepsLocks_of_eq rfl
    · exact keepsLocks_of_discarded (by rw [enterFault_eq])

theorem keepsLocks_firstContactExpired : s.KeepsLocks s.firstContactExpired := by
  unfold State.firstContactExpired
  split
  · exact keepsLocks_of_eq rfl
  · exact keepsLocks_closeLog

theorem keepsLocks_joinDeadlineExpired : s.KeepsLocks s.joinDeadlineExpired := by
  unfold State.joinDeadlineExpired
  split
  · exact keepsLocks_of_eq rfl
  · exact keepsLocks_requeueJoin

theorem keepsLocks_waitExpired (l : LockId) : s.KeepsLocks (s.waitExpired l) := by
  unfold State.waitExpired
  dsimp only
  split
  · split
    · split <;> exact keepsLocks_of_eq rfl
    · exact keepsLocks_of_eq (notified_endIntent (s := s.setWaitTimer l .stopped) l _).table
  all_goals exact keepsLocks_of_eq rfl

theorem bitFaultDetected_table (s : State) (cell : FaultCell) : (s.bitFaultDetected cell).table = s.table := by
  unfold State.bitFaultDetected
  split <;> rfl

/-- Every row that is no reset pin's keeps the laws of the lock table. -/
theorem keepsLocks_exec {c : Instr} (hc : c.isReset = false) (h : exec c s = .next t) : s.KeepsLocks t := by
  cases hbytes : c.hostBytes with
  | some command =>
    obtain ⟨code, params, check⟩ := command
    obtain rfl := Host.Outcome.next.inj ((exec_of_hostBytes hbytes s).symm.trans h)
    exact keepsLocks_unlessReset (keepsLocks_commandRow code params check)
  | none =>
    cases c with
    | nresetAssert => cases hc
    | nresetRelease straps => cases hc
    | powerUp straps low => cases hc
    | ncsFall =>
      obtain rfl := Host.Outcome.next.inj h
      unfold State.ncsFall
      split
      · exact keepsLocks_of_eq rfl
      · split <;> exact keepsLocks_of_eq rfl
    | ncsRise =>
      obtain rfl := Host.Outcome.next.inj h
      unfold State.ncsRise
      split
      · split <;> exact keepsLocks_of_eq rfl
      · exact keepsLocks_of_eq rfl
    | badCommand code =>
      obtain rfl := Host.Outcome.next.inj h
      refine keepsLocks_unlessReset ?_
      unfold State.badCommand
      split <;> exact keepsLocks_of_eq rfl
    | readEventComplete =>
      obtain rfl := Host.Outcome.next.inj h
      refine keepsLocks_unlessReset ?_
      unfold State.readEventComplete
      split <;> exact keepsLocks_of_eq rfl
    | byteComplete sdi =>
      obtain rfl := Host.Outcome.next.inj h
      exact keepsLocks_unlessReset (keepsLocks_byteComplete sdi)
    | lineIdle =>
      obtain rfl := Host.Outcome.next.inj h
      exact keepsLocks_atIdle keepsLocks_lineIdle
    | busStart =>
      obtain rfl := Host.Outcome.next.inj h
      exact keepsLocks_unlessReset keepsLocks_busStart
    | arbitrationLost =>
      obtain rfl := Host.Outcome.next.inj h
      exact keepsLocks_unlessReset keepsLocks_arbitrationLost
    | crcHandoff frame =>
      obtain rfl := Host.Outcome.next.inj h
      exact keepsLocks_unlessReset (keepsLocks_of_eq (crcHandoff_table s frame))
    | errorFlag cause =>
      obtain rfl := Host.Outcome.next.inj h
      exact keepsLocks_unlessReset (keepsLocks_of_eq (errorFlag_table s cause))
    | frameDelivery slots =>
      obtain rfl := Host.Outcome.next.inj h
      exact keepsLocks_atIdle (keepsLocks_frameDelivery slots)
    | lineStuck =>
      obtain rfl := Host.Outcome.next.inj h
      exact keepsLocks_unlessReset keepsLocks_lineStuck
    | presenceTimerExpiry =>
      obtain rfl := Host.Outcome.next.inj h
      exact keepsLocks_unlessReset (keepsLocks_expire _ (keepsLocks_of_eq rfl))
    | silenceTimerExpiry peer =>
      obtain rfl := Host.Outcome.next.inj h
      exact keepsLocks_unlessReset (keepsLocks_expire _ (keepsLocks_of_eq rfl))
    | firstContactExpiry =>
      obtain rfl := Host.Outcome.next.inj h
      exact keepsLocks_unlessReset (keepsLocks_expire _ keepsLocks_firstContactExpired)
    | joinDeadlineExpiry =>
      obtain rfl := Host.Outcome.next.inj h
      exact keepsLocks_unlessReset (keepsLocks_expire _ keepsLocks_joinDeadlineExpired)
    | waitTimerExpiry lock =>
      obtain rfl := Host.Outcome.next.inj h
      exact keepsLocks_unlessReset (keepsLocks_expire _ (keepsLocks_waitExpired lock))
    | yieldWaitExpiry =>
      obtain rfl := Host.Outcome.next.inj h
      refine keepsLocks_unlessReset (keepsLocks_expire _ ?_)
      unfold State.yieldWaitOver
      split <;> exact keepsLocks_of_eq rfl
    | missingEdge met =>
      obtain rfl := Host.Outcome.next.inj h
      exact keepsLocks_unlessReset (keepsLocks_of_eq rfl)
    | bitFaultDetected cell =>
      obtain rfl := Host.Outcome.next.inj h
      exact keepsLocks_unlessReset (keepsLocks_of_eq (bitFaultDetected_table s cell))
    | _ => cases hbytes

end

/-- Settles O59: a reset pin leaves a blank table, time leaves the table as it is, and every other row keeps the laws. -/
theorem everyStepKeepsTheLockTable : Obligations.EveryStepKeepsTheLockTable := by
  intro s t hs hstep
  refine step_keeps (law := fun s => s.table.Lawful) (fun _ _ h => h) (fun s h => ?_)
    (fun _ _ restarted => restarted.table.symm ▸ lawful_discarded) (fun c s t h hexec _ => ?_) hs hstep
  · exact keepsLocks_unlessReset (f := fun s => s.setLine s.line.cellsPass) (keepsLocks_of_eq rfl) h
  · cases hc : c.isReset with
    | true =>
      obtain ⟨u, hu, restarted⟩ := exec_restarted c s hc
      obtain rfl := Host.Outcome.next.inj (hexec.symm.trans hu)
      exact restarted.table.symm ▸ lawful_discarded
    | false => exact keepsLocks_exec hc hexec h

end Sys2Proof.Machine
end

section
/-! SUPPORT. One step, the reset pins, and the framing of a transaction on the host port. -/

namespace Sys2Proof.Machine

/-! ### A row in and out of reset (R178) -/

theorem unlessReset_of_reset {s : State} (h : s.inReset = true) (f : State → State) : s.unlessReset f = s := if_pos h

theorem unlessReset_of_running {s : State} (h : s.inReset = false) (f : State → State) : s.unlessReset f = f s := by
  rw [State.unlessReset, h]
  rfl

theorem atIdle_of_running {s : State} (h : s.inReset = false) (f : State → State) : s.atIdle f = f s := by
  rw [State.atIdle, h]
  rfl

theorem atIdle_of_reset {s : State} (h : s.inReset = true) (f : State → State) :
    s.atIdle f = if s.line.aborted then s.setLine (.initial s.line.rate) else s := if_pos h

/-- Settles O1: the front command's row, and what the cells of a frame passing change. -/
theorem stepTakesTheFrontCommand : Obligations.StepTakesTheFrontCommand := by
  refine ⟨fun c rest s h => by rw [step, h], fun s h => ?_⟩
  have hstep : step s = .next s.timePasses := by rw [step, h]
  rw [hstep, State.timePasses]
  rcases Bool.eq_false_or_eq_true s.inReset with hreset | hreset
  · rw [unlessReset_of_reset hreset, if_pos hreset]
  · rw [unlessReset_of_running hreset, if_neg (by simp [hreset])]
    refine congrArg (fun u => Host.Outcome.next (s.setLine u)) (?_ : s.line.cellsPass = _)
    unfold LineUnit.cellsPass
    cases s.line.tx <;> rfl

/-! ### The reset pins (R1, R178, R179) -/

theorem rateOf_eq (r1 r0 : Bool) :
    rateOf r1 r0 = if r1 then (if r0 then .k1000 else .k500) else (if r0 then .k250 else .k125) := by
  cases r1 <;> cases r0 <;> rfl

theorem asAfterReset_initial (id : StationId) (rate : BitRate) (inReset low : Bool) (free : Nat) (q : List Instr) :
    (State.initial id rate inReset low free q).AsAfterReset id rate where
  line := rfl
  commit := rfl
  validity := rfl
  transfer := rfl
  ctrl := rfl
  intents l := entryAt_replicate _ l
  queue := rfl
  timers := rfl
  offer := rfl
  sel := rfl
  events := rfl
  port := rfl

/-- Settles O4: both rows leave `State.initial` with the id and the rate of the straps. -/
theorem releaseOfResetStartsEveryBlock : Obligations.ReleaseOfResetStartsEveryBlock := by
  intro straps low s rate
  have hrate : rateOf straps.rate1 straps.rate0 = rate := rateOf_eq _ _
  refine ⟨⟨_, rfl, ?_, rfl, rfl, rfl⟩, ⟨_, rfl, ?_, rfl, rfl, rfl⟩⟩
  · rw [← hrate]
    exact asAfterReset_initial _ _ _ _ _ _
  · rw [← hrate]
    exact asAfterReset_initial _ _ _ _ _ _

/-- Settles O6: the reset state is `State.initial`, whose blank table and empty queues meet the laws. -/
theorem resetMeetsTheLaws : Obligations.ResetMeetsTheLaws :=
  ⟨asAfterReset_initial 0 _ false false 0 [], rfl, rfl, rfl, lawful_initialEvents,
    ⟨Nat.zero_le _, Nat.zero_le _, Nat.zero_le _, Nat.zero_le _, Nat.zero_le _, Nat.zero_le _, Nat.zero_le _⟩,
    lawful_discarded⟩

theorem held_of_slots {u : LineUnit} (h : u.tx = .slots) :
    u.held = { LineUnit.initial u.rate with tx := .slots, aborted := true } := by
  rw [LineUnit.held, h]

theorem held_of_not_slots {u : LineUnit} (h : u.tx ≠ .slots) : u.held = .initial u.rate := by
  unfold LineUnit.held
  cases htx : u.tx with
  | slots => exact absurd htx h
  | _ => rfl

/-- The state that NRESET_ASSERT leaves (R178). -/
def State.asserted (s : State) : State := (s.restart s.ctrl.id s.line.rate true).setLine s.line.held

/-- Settles O5: by the transmit phase at the assertion; and in reset each row by the one test of `inReset` it makes. -/
theorem assertedResetHoldsThePart : Obligations.AssertedResetHoldsThePart := by
  refine ⟨fun s => ⟨s.asserted, rfl, ?_⟩, ?_⟩
  · have hinitial := asAfterReset_initial s.ctrl.id s.line.rate true s.ncsLow s.free s.pending
    by_cases h : s.line.tx = .slots
    · have hline : s.asserted.line = { LineUnit.initial s.line.rate with tx := .slots, aborted := true } :=
        held_of_slots h
      refine ⟨{ hinitial with line := by rw [hline]; rfl }, fun _ => ?_, fun hnot => absurd h hnot, rfl, rfl, ?_, ?_, rfl, rfl⟩
      · simp [State.closingCells, hline]
      · simp [State.sentBody, LineUnit.inBody, hline]
      · simp [State.drivesFlag, hline, LineUnit.initial]
    · have hline : s.asserted.line = LineUnit.initial s.line.rate := held_of_not_slots h
      refine ⟨{ hinitial with line := by rw [hline]; rfl }, fun hslots => absurd hslots h, fun _ => ?_, rfl, rfl, ?_, ?_, rfl,
        rfl⟩
      · simp [State.closingCells, hline, LineUnit.initial]
      · simp [State.sentBody, LineUnit.inBody, hline, LineUnit.initial]
      · simp [State.drivesFlag, hline, LineUnit.initial]
  · intro c s hreset hc ended
    have hidle (f : State → State) : s.atIdle f = if s.line.aborted then ended else s := atIdle_of_reset hreset f
    cases hbytes : c.hostBytes with
    | some command =>
      obtain ⟨code, params, check⟩ := command
      rw [exec_of_hostBytes hbytes, unlessReset_of_reset hreset]
      cases c <;> cases hbytes <;> rfl
    | none =>
      cases c with
      | nresetAssert => cases hc
      | nresetRelease straps => cases hc
      | powerUp straps low => cases hc
      | ncsFall =>
        refine congrArg Host.Outcome.next ?_
        unfold State.ncsFall
        cases hlow : s.ncsLow with
        | true => rw [if_pos rfl, State.setNcs, ← hlow]
        | false => rw [if_neg Bool.false_ne_true, if_pos hreset]
      | ncsRise =>
        refine congrArg Host.Outcome.next ?_
        unfold State.ncsRise
        cases hlow : s.ncsLow with
        | true => rw [if_pos rfl, if_pos hreset]
        | false => exact (if_neg Bool.false_ne_true).trans (congrArg s.setNcs hlow)
      | lineIdle => exact congrArg Host.Outcome.next (hidle _)
      | frameDelivery slots => exact congrArg Host.Outcome.next (hidle _)
      | status | configure | enter | leave | detach | acquireNoWaitLimit | acquireWithWaitLimit | release | cancel
      | queryLock | queryMembers | readEvent => cases hbytes
      | _ => exact congrArg Host.Outcome.next (unlessReset_of_reset hreset _)

/-! ### Framing (R168, R169, R174) -/

/-- Settles O7: out of reset each edge does the one thing it can. -/
theorem ncsEdgesFrameTheTransaction : Obligations.NcsEdgesFrameTheTransaction := by
  refine ⟨fun s hreset hlow => congrArg Host.Outcome.next ?_, fun s hreset hlow => congrArg Host.Outcome.next ?_⟩
  · rw [State.ncsFall, if_neg (by simp [hlow]), if_neg (by simp [hreset])]
    rfl
  · rw [State.ncsRise, if_pos hlow, if_neg (by simp [hreset])]
    rfl

/-- A byte's row out of reset. -/
theorem exec_byteComplete {s : State} (h : s.inReset = false) (b : Byte) :
    exec (.byteComplete b) s = .next (s.byteComplete b) :=
  congrArg Host.Outcome.next (unlessReset_of_running h _)

/-- Settles O8: the phases of a transaction one by one. -/
theorem byteCompletesByPhase : Obligations.ByteCompletesByPhase := by
  intro b s hreset
  rw [exec_byteComplete hreset]
  refine ⟨fun h => congrArg _ ?_, fun h => congrArg _ ?_, fun h hlt => congrArg _ ?_, fun h hle => congrArg _ ?_, ?_⟩
  · rcases h with h | h <;> rw [State.byteComplete, h]
  · rw [State.byteComplete, h]
    rfl
  · rw [State.byteComplete, h]
    exact if_pos hlt
  · rw [State.byteComplete, h]
    exact if_neg (not_lt.mpr hle)
  · rw [State.sdoByte, hreset]
    cases s.port.phase <;> rfl

/-- A command's row where its buffer is a beginning of the command: the check byte completes with the rest before it. -/
theorem exec_of_hears {c : Instr} {code check : Byte} {params : List Byte} {s : State}
    (hbytes : c.hostBytes = some (code, params, check)) (h : s.Hears code params) :
    exec c s = .next ((s.fillBuffer (code :: params)).checkByte code params check) := by
  obtain ⟨hreset, hphase, hbuffer⟩ := h
  rw [exec_of_hostBytes hbytes, unlessReset_of_running hreset, State.commandRow,
    if_pos ⟨hphase, List.isPrefixOf_iff_prefix.mpr hbuffer⟩]

theorem parameterCount_of_hostBytes {c : Instr} {code check : Byte} {params : List Byte}
    (h : c.hostBytes = some (code, params, check)) : parameterCount code = some params.length := by
  cases c <;> cases h <;> rfl

theorem commandOf_of_hostBytes {c : Instr} {code check : Byte} {params : List Byte}
    (h : c.hostBytes = some (code, params, check)) : ∃ command, commandOf code params = some command := by
  cases c <;> cases h <;> exact ⟨_, rfl⟩

/-- One byte clocked while others wait. -/
theorem step_byteComplete {s : State} (h : s.inReset = false) (b : Byte) (q : List Instr) :
    step (s.setPending (.byteComplete b :: q)) = .next ((s.setPending q).byteComplete b) :=
  exec_byteComplete (s := s.setPending q) h b

/-- The parameter bytes that are still to come, and the check byte, from a buffer that holds the code and the parameters
before them (R169). -/
theorem run_parameters {code check : Byte} (s : State) (hreset : s.inReset = false) (hphase : s.port.phase = .command)
    (post pre : List Byte) (hcount : parameterCount code = some (pre.length + post.length)) :
    Host.Core.run Sys2Proof.core (post.length + 1)
        ((s.fillBuffer (code :: pre)).setPending ((post ++ [check]).map Instr.byteComplete ++ s.pending)) =
      .next ((s.fillBuffer (code :: (pre ++ post))).checkByte code (pre ++ post) check) := by
  induction post generalizing pre with
  | nil =>
    have hstep : step ((s.fillBuffer (code :: pre)).setPending (.byteComplete check :: s.pending)) =
        .next ((s.fillBuffer (code :: pre)).checkByte code pre check) := by
      refine (step_byteComplete (s := s.fillBuffer (code :: pre)) hreset check s.pending).trans (congrArg _ ?_)
      show (s.fillBuffer (code :: pre)).byteComplete check = _
      have hlast : ¬ pre.length < (parameterCount code).getD 0 := by simp [hcount]
      have hcommand : (s.fillBuffer (code :: pre)).port.phase = .command := hphase
      rw [State.byteComplete, hcommand]
      exact if_neg hlast
    rw [List.append_nil]
    exact run_succ 0 hstep
  | cons b post ih =>
    have hstep : step ((s.fillBuffer (code :: pre)).setPending
          (.byteComplete b :: ((post ++ [check]).map Instr.byteComplete ++ s.pending))) =
        .next ((s.fillBuffer (code :: (pre ++ [b]))).setPending
          ((post ++ [check]).map Instr.byteComplete ++ s.pending)) := by
      refine (step_byteComplete (s := s.fillBuffer (code :: pre)) hreset b _).trans (congrArg _ ?_)
      have hmore : pre.length < (parameterCount code).getD 0 := by simp [hcount]
      have hcommand (q : List Instr) : ((s.fillBuffer (code :: pre)).setPending q).port.phase = .command := hphase
      rw [State.byteComplete, hcommand]
      exact if_pos hmore
    refine (run_succ (post.length + 1) hstep).trans ?_
    rw [ih (pre ++ [b]) (by simp [hcount]; omega), List.append_assoc]
    rfl

/-- Settles O9: the code byte fills the buffer, and the parameters and the check byte follow one by one. -/
theorem bytesMakeTheCommand : Obligations.BytesMakeTheCommand := by
  intro c code params check s hbytes hreset hphase hbuffer
  have hcount := parameterCount_of_hostBytes hbytes
  have hstep : step (s.setPending ((code :: params ++ [check]).map Instr.byteComplete ++ s.pending)) =
      .next ((s.fillBuffer [code]).setPending ((params ++ [check]).map Instr.byteComplete ++ s.pending)) := by
    refine (step_byteComplete hreset code _).trans (congrArg _ ?_)
    have hcommand (q : List Instr) : (s.setPending q).port.phase = .command := hphase
    have hempty (q : List Instr) : (s.setPending q).port.buffer = [] := hbuffer
    rw [State.byteComplete, hcommand]
    dsimp only
    rw [State.commandByte, hempty, hcount]
    rfl
  rw [exec_of_hears hbytes ⟨hreset, hphase, hbuffer ▸ List.nil_prefix⟩]
  refine (run_succ (params.length + 1) hstep).trans ?_
  exact run_parameters s hreset hphase params [] (by simp [hcount])

/-- Settles O10: a check byte that fails, and a code byte that is not known. -/
theorem rejectedTransactionsTakeNothing : Obligations.RejectedTransactionsTakeNothing := by
  refine ⟨fun c code params check s hbytes hears hsum => ?_, fun code s hears hbuffer hcode => ?_⟩
  · have hcheck : checkHolds code params check = false := by
      rw [← Bool.not_eq_true, checkHolds_iff]
      exact hsum
    rw [exec_of_hears hbytes hears, State.checkByte, hcheck]
    rfl
  · obtain ⟨hreset, hphase, -⟩ := hears
    have hcount : parameterCount code = none := by
      unfold parameterCount
      simp only [List.mem_cons, List.not_mem_nil, or_false, not_or] at hcode
      obtain ⟨h1, h2, h3, h4, h5, h6, h7, h8, h9, h10, h11, h12⟩ := hcode
      rw [if_neg h1, if_neg h2, if_neg h3, if_neg h4, if_neg h5, if_neg h6, if_neg h7, if_neg h8, if_neg h9, if_neg h10,
        if_neg h11, if_neg h12]
    have hreject : s.rejectCode code = s.answered [code] [0x0F] := rfl
    constructor
    · refine congrArg Host.Outcome.next ((unlessReset_of_running hreset _).trans ?_)
      rw [State.badCommand, if_pos ⟨hphase, hbuffer, by rw [hcount]; rfl⟩, hreject]
    · rw [exec_byteComplete hreset, State.byteComplete, hphase]
      dsimp only
      rw [State.commandByte, hbuffer, hcount]
      rfl

/-! ### Answers other than OK (R175) -/

theorem statusCodeByte_ok (r : StatusCode) : statusCodeByte r = 0x00 ↔ r = .ok := by
  cases r <;> simp [statusCodeByte]

theorem thenChoose_refused {r : StatusCode × State} {s : State} (hr : r.1 ≠ .ok → r.2 = s)
    (h : (thenChoose r).1 ≠ .ok) : (thenChoose r).2 = s := by
  unfold thenChoose at h ⊢
  split
  · rename_i hok
    rw [if_pos hok] at h
    exact absurd rfl h
  · rename_i hok
    exact hr hok

theorem acquireCommand_refused {s : State} {lock mode : Byte} {limit : Word16}
    (h : (s.acquireCommand lock mode limit).1 ≠ .ok) : (s.acquireCommand lock mode limit).2 = s := by
  by_cases hactive : s.ctrl.station = .active
  · cases hleave : s.ctrl.leavePending with
    | true => rw [State.acquireCommand_of_leavePending hleave]
    | false =>
      cases hlock : lockOf lock with
      | none => rw [State.acquireCommand_of_out_of_range hactive hleave (.inl hlock)]
      | some l =>
        cases hmode : modeOf mode with
        | none => rw [State.acquireCommand_of_out_of_range hactive hleave (.inr hmode)]
        | some asked =>
          rw [State.acquireCommand_of_in_range hactive hleave hlock hmode] at h ⊢
          split
          · rfl
          · rename_i hidle
            rw [if_neg hidle] at h
            split
            · rfl
            · rename_i hfull
              rw [if_neg hfull] at h
              exact absurd rfl h
  · rw [State.acquireCommand_of_not_active hactive]

theorem releaseCommand_refused {s : State} {lock : Byte} (h : (s.releaseCommand lock).1 ≠ .ok) :
    (s.releaseCommand lock).2 = s := by
  by_cases hactive : s.ctrl.station = .active
  · cases hlock : lockOf lock with
    | none => rw [State.releaseCommand_of_out_of_range hactive hlock]
    | some l =>
      rw [State.releaseCommand_of_in_range hactive hlock] at h ⊢
      split
      · rfl
      · rename_i hheld
        rw [if_neg hheld] at h
        split
        · rfl
        · rename_i hfull
          rw [if_neg hfull] at h
          exact absurd rfl h
  · rw [State.releaseCommand_of_not_active hactive]

theorem cancelCommand_refused {s : State} {lock : Byte} (h : (s.cancelCommand lock).1 ≠ .ok) :
    (s.cancelCommand lock).2 = s := by
  revert h
  unfold State.cancelCommand
  split
  · exact fun _ => rfl
  · split
    · exact fun _ => rfl
    · split
      · exact fun h => absurd rfl h
      · split
        · split
          · exact fun _ => rfl
          · exact fun h => absurd rfl h
        · exact fun h => absurd rfl h
      all_goals exact fun _ => rfl

theorem leaveCommand_refused {s : State} (h : s.leaveCommand.1 ≠ .ok) : s.leaveCommand.2 = s := by
  revert h
  unfold State.leaveCommand
  split
  · exact fun _ => rfl
  · split
    · exact fun _ => rfl
    · split
      · exact fun _ => rfl
      · exact fun h => absurd rfl h

theorem enterCommand_refused {s : State} (h : s.enterCommand.1 ≠ .ok) : s.enterCommand.2 = s := by
  revert h
  unfold State.enterCommand
  split
  · exact fun _ => rfl
  · exact fun h => absurd rfl h

theorem configureCommand_refused {s : State} {p k jmul : Byte} (h : (s.configureCommand p k jmul).1 ≠ .ok) :
    (s.configureCommand p k jmul).2 = s := by
  revert h
  unfold State.configureCommand
  split
  · exact fun _ => rfl
  · split
    · exact fun h => absurd rfl h
    · exact fun _ => rfl

/-- A taken command that is refused leaves the state as it is. -/
theorem take_refused {s : State} {c : HostCommand} (h : (s.take c).1 ≠ .ok) : (s.take c).2.2 = s := by
  cases c with
  | status => rfl
  | configure p k jmul => exact configureCommand_refused h
  | enter => exact enterCommand_refused h
  | leave => exact thenChoose_refused leaveCommand_refused h
  | detach => exact absurd rfl h
  | acquire lock mode limit => exact thenChoose_refused acquireCommand_refused h
  | release lock => exact thenChoose_refused releaseCommand_refused h
  | cancel lock => exact thenChoose_refused cancelCommand_refused h
  | queryLock lock => exact take_queryLock_state s lock
  | queryMembers => exact take_queryMembers_state s
  | readEvent =>
    revert h
    unfold State.take
    cases s.events.entries with
    | nil => exact fun _ => rfl
    | cons head rest => exact fun h => absurd rfl h

/-- Settles O11: the answer's first byte is OK, or the owner has left the state as it was. -/
theorem refusedCommandChangesNothing : Obligations.RefusedCommandChangesNothing := by
  intro c code params check s t hbytes htakes hexec
  obtain ⟨hears, hsum⟩ := htakes
  obtain ⟨command, hcommand⟩ := commandOf_of_hostBytes hbytes
  have hcheck : checkHolds code params check = true := (checkHolds_iff code params check).mpr hsum
  rw [exec_of_hears hbytes hears, State.checkByte, if_pos hcheck, hcommand] at hexec
  obtain rfl := Host.Outcome.next.inj hexec
  by_cases hok : ((s.fillBuffer (code :: params)).take command).1 = .ok
  · refine .inl ⟨((s.fillBuffer (code :: params)).take command).2.1, ?_⟩
    show statusCodeByte _ :: _ = _
    rw [(statusCodeByte_ok _).mpr hok]
  · refine .inr ⟨statusCodeByte ((s.fillBuffer (code :: params)).take command).1 ::
      ((s.fillBuffer (code :: params)).take command).2.1, ?_⟩
    dsimp only
    rw [State.answer, take_refused hok]
    rfl

/-! ### The end of a READ_EVENT (R164) -/

/-- Settles O23: the response is finished and the read record acted on, by its changed mark. -/
theorem completedReadRemovesTheHead : Obligations.CompletedReadRemovesTheHead := by
  intro s rd head rest hreset hphase hreading hentries
  have hread : s.readEventComplete = s.finishResponse := if_pos ⟨by rw [hreading]; rfl, hphase⟩
  have hattn : (!rest.isEmpty) = decide (rest ≠ []) := by cases rest <;> rfl
  have hcomplete : s.events.complete =
      if rd.changed then { s.events with entries := { head with merged := rd.merges } :: rest, reading := none }
      else { entries := rest, attn := decide (rest ≠ []), reading := none } := by
    rw [EventQueue.complete, hreading, hentries]
    dsimp only
    rw [hattn]
  refine congrArg Host.Outcome.next ((unlessReset_of_running hreset _).trans ?_)
  rw [hread, State.finishResponse, hcomplete]
  rfl

end Sys2Proof.Machine
end

section
/-! SUPPORT. The host commands LEAVE, QUERY_LOCK, QUERY_MEMBERS and READ_EVENT, with the bytes they answer. -/

namespace Sys2Proof.Machine

/-! ### LEAVE (R98) -/

section
variable {s : State}

theorem State.leaveCommand_of_not_active (h : s.ctrl.station ≠ .active) : s.leaveCommand = (.wrongState, s) := if_pos h

theorem State.leaveCommand_of_leavePending (hactive : s.ctrl.station = .active) (hleave : s.ctrl.leavePending = true) :
    s.leaveCommand = (.duplicate, s) := by
  rw [State.leaveCommand, if_neg (not_not_intro hactive), if_pos hleave]

theorem State.leaveCommand_of_active (hactive : s.ctrl.station = .active) (hleave : s.ctrl.leavePending = false) :
    s.leaveCommand =
      if 8 ≤ s.intents.queue.length then (.queueFull, s)
      else
        (.ok,
          { s with
            ctrl := { s.ctrl with leavePending := true },
            intents := { s.intents with queue := s.intents.queue ++ [QueueEntry.leave] } }) := by
  rw [State.leaveCommand, if_neg (not_not_intro hactive), if_neg (by simp [hleave])]
  simp only [State.queueFull, decide_eq_true_eq]
  rfl

theorem State.leaveCommand_setPort (s : State) (x : HostPort) :
    (s.setPort x).leaveCommand = (s.leaveCommand.1, s.leaveCommand.2.setPort x) := by
  by_cases hactive : s.ctrl.station = .active
  · rcases Bool.eq_false_or_eq_true s.ctrl.leavePending with hleave | hleave
    · rw [leaveCommand_of_leavePending hactive hleave, leaveCommand_of_leavePending (s := s.setPort x) hactive hleave]
    · rw [leaveCommand_of_active hactive hleave, leaveCommand_of_active (s := s.setPort x) hactive hleave,
        State.setPort_intents]
      split <;> rfl
  · rw [leaveCommand_of_not_active hactive, leaveCommand_of_not_active (s := s.setPort x) hactive]

theorem exec_leave_of_takes {check : Byte} (htakes : s.Takes 0x04 [] check) :
    exec (.leave check) s =
      .next ((thenChoose s.leaveCommand).2.answered [0x04] [statusCodeByte (thenChoose s.leaveCommand).1]) := by
  have htake (x : HostPort) : (s.setPort x).take .leave =
      ((s.take .leave).1, (s.take .leave).2.1, (s.take .leave).2.2.setPort x) := by
    simp only [State.take, State.leaveCommand_setPort, thenChoose_setPort]
  exact congrArg Host.Outcome.next (State.commandRow_eq_answered htakes rfl htake)

end

/-- Settles O15: the first refusal that holds is the answer; a taken LEAVE is followed by the choice. -/
theorem leaveQueuesItsFrame : Obligations.LeaveQueuesItsFrame := by
  intro check s htakes
  rw [exec_leave_of_takes htakes]
  by_cases hactive : s.ctrl.station = .active
  · rw [if_neg (not_not_intro hactive)]
    rcases Bool.eq_false_or_eq_true s.ctrl.leavePending with hleave | hleave
    · rw [State.leaveCommand_of_leavePending hactive hleave, if_pos hleave]
      rfl
    · have hnot : ¬ s.ctrl.leavePending = true := by simp [hleave]
      rw [State.leaveCommand_of_active hactive hleave, if_neg hnot]
      split <;> rfl
  · rw [if_pos hactive, State.leaveCommand_of_not_active hactive]
    rfl

/-! ### QUERY_LOCK (Tables 12-11 and 12-12) -/

theorem take_queryLock_of_out_of_range {s : State} {lock : Byte} (h : lockOf lock = none) :
    s.take (.queryLock lock) = (.range, zeroBytes 30, s) := by
  simp only [State.take, h]

theorem take_queryLock_of_in_range {s : State} {lock : Byte} {l : LockId} (h : lockOf lock = some l) :
    s.take (.queryLock lock) =
      if s.table.validity = .complete then (.ok, s.lockBytes l, s) else (.noTable, zeroBytes 30, s) := by
  simp only [State.take, h]

theorem exec_queryLock_of_takes {s : State} {lock check : Byte} (htakes : s.Takes 0x20 [lock] check) :
    exec (.queryLock lock check) s =
      .next (s.answered [0x20, lock]
        (statusCodeByte (s.take (.queryLock lock)).1 :: (s.take (.queryLock lock)).2.1)) := by
  have htake (x : HostPort) : (s.setPort x).take (.queryLock lock) =
      ((s.take (.queryLock lock)).1, (s.take (.queryLock lock)).2.1, (s.take (.queryLock lock)).2.2.setPort x) := by
    cases h : lockOf lock with
    | none => rw [take_queryLock_of_out_of_range h, take_queryLock_of_out_of_range h]
    | some l =>
      rw [take_queryLock_of_in_range h, take_queryLock_of_in_range h, State.setPort_table]
      split <;> rfl
  refine congrArg Host.Outcome.next ((State.commandRow_eq_answered htakes rfl htake).trans ?_)
  rw [take_queryLock_state]

theorem lockByte_of_lt {lock : Byte} (h : lock.toNat < 64) : lockByte ⟨lock.toNat, h⟩ = lock := by
  apply BitVec.eq_of_toNat_eq
  simp only [lockByte, BitVec.toNat_ofNat]
  omega

/-- The byte of a waiter is its station, with 16 added for EXCLUSIVE (Table 12-7). -/
theorem waiterByte_eq (w : Waiter) :
    waiterByte w = BitVec.ofNat 8 ((match w.mode with | .shared => 0 | .exclusive => 16) + w.station.val) := by
  obtain ⟨i, m⟩ := w
  cases m with
  | shared => simp [waiterByte, stationByte]
  | exclusive =>
    have key : ∀ i : StationId, (0x10 ||| stationByte i : Byte) = BitVec.ofNat 8 (16 + i.val) := by decide
    exact key i

/-- The fifteen waiter places, one by one. -/
theorem waiterPlaces_eq (ws : List Waiter) :
    waiterPlaces ws = (List.range 15).map (fun i =>
      match ws[i]? with
      | some w => waiterByte w
      | none => 0xFF) := by
  apply List.ext_getElem?
  intro i
  rw [waiterPlaces, List.getElem?_take, List.getElem?_map]
  by_cases hi : i < 15
  · rw [if_pos hi, List.getElem?_range hi, List.getElem?_append]
    by_cases hw : i < ws.length
    · simp [hw]
    · have hreplicate : i - ws.length < 15 := by omega
      rw [List.length_map, if_neg hw, List.getElem?_replicate, if_pos hreplicate]
      simp [not_lt.mp hw]
  · rw [if_neg hi]
    simp [hi]

/-- The flags of an intent are the sum of their places (Table 12-12). -/
theorem intentFlags_eq (r : IntentRecord) :
    intentFlags r =
      BitVec.ofNat 8
        ((if r.mode == some .exclusive then 1 else 0) + (if r.tryFlag == some true then 2 else 0) +
          (if r.cause.isSome then 4 else 0) + (if r.cause == some .timeout then 8 else 0) +
          (if r.mark.isSome then 16 else 0) + (if r.mark == some .timeout then 32 else 0) +
          (if r.token.isSome then 64 else 0)) := by
  have key : ∀ a b c d e f g : Bool,
      flagBit a 0 ||| flagBit b 1 ||| flagBit c 2 ||| flagBit d 3 ||| flagBit e 4 ||| flagBit f 5 ||| flagBit g 6 =
        BitVec.ofNat 8 ((if a then 1 else 0) + (if b then 2 else 0) + (if c then 4 else 0) + (if d then 8 else 0) +
          (if e then 16 else 0) + (if f then 32 else 0) + (if g then 64 else 0)) := by decide
  exact key _ _ _ _ _ _ _

/-- Settles O20: by the range of the lock and the validity of the table. -/
theorem queryLockShowsTheEntry : Obligations.QueryLockShowsTheEntry := by
  intro lock check s htakes
  rw [exec_queryLock_of_takes htakes]
  refine ⟨fun h => ?_, fun h hvalidity => ?_, fun h epoch hvalidity hepoch => ?_⟩
  · rw [take_queryLock_of_out_of_range (lockOf_of_not_lt (not_lt.mpr h))]
    rfl
  · rw [take_queryLock_of_in_range (lockOf_of_lt h), if_neg hvalidity]
    rfl
  · intro e r hi lo bit
    have hvalue : s.epochValue = epoch := by rw [State.epochValue, hepoch]; rfl
    rw [take_queryLock_of_in_range (lockOf_of_lt h), if_pos hvalidity, State.lockBytes, lockByte_of_lt h, hvalue]
    simp only [bytesOf, hiByte_eq_ofNat, loByte_eq_ofNat, waiterPlaces_eq, waiterByte_eq, intentFlags_eq]
    rfl

/-! ### QUERY_MEMBERS (Table 12-13) -/

theorem exec_queryMembers_of_takes {s : State} {check : Byte} (htakes : s.Takes 0x21 [] check) :
    exec (.queryMembers check) s =
      .next (s.answered [0x21] (statusCodeByte (s.take .queryMembers).1 :: (s.take .queryMembers).2.1)) := by
  have htake (x : HostPort) : (s.setPort x).take .queryMembers =
      ((s.take .queryMembers).1, (s.take .queryMembers).2.1, (s.take .queryMembers).2.2.setPort x) := by
    unfold State.take
    dsimp only
    rw [State.setPort_table]
    split <;> rfl
  refine congrArg Host.Outcome.next ((State.commandRow_eq_answered htakes rfl htake).trans ?_)
  rw [take_queryMembers_state]

/-- The entries of a table, lowest number first. -/
theorem toList_eq_map_entryAt {α : Type} {n : Nat} (t : Vector α n) : t.toList = (List.finRange n).map (entryAt t) := by
  apply List.ext_getElem
  · simp
  · intro i h1 h2
    simp [entryAt]

/-- Settles O21: by the validity of the table. -/
theorem queryMembersShowsTheTable : Obligations.QueryMembersShowsTheTable := by
  intro check s htakes
  rw [exec_queryMembers_of_takes htakes]
  refine ⟨fun h => ?_, fun epoch hvalidity hepoch => ?_⟩
  · rw [State.take, if_neg h]
    rfl
  · intro hi lo
    have hvalue : s.epochValue = epoch := by rw [State.epochValue, hepoch]; rfl
    have hrecord (m : MemberEntry) : memberBytes m =
        [(match m.status with | .absent => 0 | .joining => 1 | .active => 2), hi m.joinEpoch, lo m.joinEpoch] := by
      rw [memberBytes, bytesOf, hiByte_eq_ofNat, loByte_eq_ofNat]
      cases m.status <;> rfl
    have hrecords : s.table.members.toList.flatMap memberBytes =
        allStations.flatMap (fun i =>
          [(match statusIn s.table.members i with | .absent => 0 | .joining => 1 | .active => 2),
            hi (entryAt s.table.members i).joinEpoch, lo (entryAt s.table.members i).joinEpoch]) := by
      rw [toList_eq_map_entryAt, List.flatMap_map]
      exact List.flatMap_congr fun i _ => hrecord _
    rw [State.take, if_pos hvalidity, State.memberListBytes, hvalue, bytesOf, hiByte_eq_ofNat, loByte_eq_ofNat, hrecords]
    cases donorOf s.table.members <;> rfl

/-! ### READ_EVENT (Table 12-14) -/

theorem exec_readEvent_of_takes {s : State} {check : Byte} (htakes : s.Takes 0x30 [] check) :
    exec (.readEvent check) s =
      .next ((s.take .readEvent).2.2.answered [0x30]
        (statusCodeByte (s.take .readEvent).1 :: (s.take .readEvent).2.1)) := by
  have htake (x : HostPort) : (s.setPort x).take .readEvent =
      ((s.take .readEvent).1, (s.take .readEvent).2.1, (s.take .readEvent).2.2.setPort x) := by
    unfold State.take
    dsimp only
    rw [State.setPort_events]
    split <;> rfl
  exact congrArg Host.Outcome.next (State.commandRow_eq_answered htakes rfl htake)

/-- Settles O22: by the head of the event queue, and its ten bytes by its event. -/
theorem readEventCapturesTheHead : Obligations.ReadEventCapturesTheHead := by
  intro check s htakes
  rw [exec_readEvent_of_takes htakes]
  refine ⟨fun h => ?_, fun head rest h => ?_⟩
  · rw [State.take, h]
    rfl
  · rw [State.take, h]
    obtain ⟨event, merged⟩ := head
    refine congrArg (fun bytes => Host.Outcome.next
      ((s.setEvents (s.events.capture ⟨event, merged⟩)).answered [0x30] (0x00 :: bytes))) ?_
    cases event with
    | lock l o =>
      cases o with
      | granted m token overtaken =>
        show [lockByte l, _, modeBit m, hiByte token, loByte token, _, _, _, _, _] = _
        rw [hiByte_eq_ofNat, loByte_eq_ofNat]
        cases m <;> rfl
      | queued m place => cases m <;> rfl
      | _ => rfl
    | station e =>
      cases e with
      | fault cause => cases cause <;> rfl
      | membersChanged active =>
        have hbytes : EventRecord.bytes ⟨.station (.membersChanged active), merged⟩ =
            [0x87, 0, 0, 0, 0, 0, 0, BitVec.ofNat 8 merged, hiByte active, loByte active] := by
          simp [EventRecord.bytes, StationEvent.kindNumber, bytesOf]
        refine hbytes.trans ?_
        rw [hiByte_eq_ofNat, loByte_eq_ofNat]
      | _ => rfl

end Sys2Proof.Machine
end

section
/-! SUPPORT. The Intent Unit (chapter 8): the end of an intent in closed form, the CANCEL command (Table 8-2), the wait
timer (Table 8-4) and the outcome notices (Table 8-3). -/

namespace Sys2Proof.Machine

/-! ### The end of an intent -/

theorem Offered.source_of_lock {f : Offered} {l : LockId} (h : f.lock? = some l) : f.source = .intents := by
  cases f with
  | cancel k => rfl
  | acquire k m t => rfl
  | release k => rfl
  | _ => exact nomatch h

theorem endIntent_eq (s : State) (l : LockId) (o : LockOutcome) :
    s.endIntent l o =
      { s with
        sel := s.sel.without (fun f => f.lock? == some l)
        intents := {
          records := setEntry s.intents.records l .idle
          queue := s.intents.queueWithout l
          timers := setEntry s.intents.timers l .stopped
          offer := s.offerWithout (fun f => f.lock? == some l) }
        events := s.events.place (.lock l o) } := by
  simp only [State.endIntent, State.dropFrames, withdraw_eq]
  rfl

theorem queueWithout_eq (x : IntentUnit) (l : LockId) :
    x.queueWithout l = (match x.queue with
      | [] => []
      | e :: rest =>
          (if e.lock? = some l ∧ x.offer ≠ some { frame := e.offer, onWire := true } then [] else [e]) ++
            rest.filter (fun e => e.lock? ≠ some l)) := by
  have hfilter (q : List QueueEntry) :
      q.filter (fun e => e.lock? != some l) = q.filter (fun e => decide (e.lock? ≠ some l)) :=
    List.filter_congr fun e _ => by by_cases h : e.lock? = some l <;> simp [h]
  unfold IntentUnit.queueWithout IntentUnit.entryOnWire
  cases x.queue with
  | nil => rfl
  | cons e rest =>
    dsimp only
    rw [hfilter]
    by_cases hl : e.lock? = some l
    · by_cases ho : x.offer = some { frame := e.offer, onWire := true }
      · simp [hl, ho]
      · simp [hl, ho]
    · simp [hl]

/-- The offer after the end of an intent: an offered frame of the lock is withdrawn where it is off the wire (R136). -/
theorem lockOffer_without (s : State) (l : LockId) :
    if s.sel.onWire = false ∧ ∃ f, s.sel.offered = some f ∧ f.lock? = some l then
      s.sel.without (fun f => f.lock? == some l) = { s.sel with offered := none } ∧
        s.offerWithout (fun f => f.lock? == some l) = none
    else
      s.sel.without (fun f => f.lock? == some l) = s.sel ∧
        s.offerWithout (fun f => f.lock? == some l) = s.intents.offer := by
  split
  next h =>
    obtain ⟨hwire, f, hf, hl⟩ := h
    exact ⟨by simp [Selector.without_of_some hf hwire, hl],
      by simp [State.offerWithout, hf, hwire, hl, Offered.source_of_lock hl]⟩
  next h =>
    cases hf : s.sel.offered with
    | none => exact ⟨Selector.without_of_none hf _, by rw [State.offerWithout, hf]⟩
    | some f =>
      by_cases hwire : s.sel.onWire = true
      · exact ⟨Selector.without_of_onWire hwire _, offerWithout_of_onWire hwire _⟩
      · have hl : f.lock? ≠ some l := fun hl => h ⟨Bool.eq_false_of_not_eq_true hwire, f, hf, hl⟩
        exact ⟨by simp [Selector.without_of_some hf (Bool.eq_false_of_not_eq_true hwire), hl],
          by simp [State.offerWithout, hf, hl]⟩

theorem endIntent_givesUp (s : State) (l : LockId) (o : LockOutcome) : s.GivesUp (s.endIntent l o) l o := by
  rw [endIntent_eq]
  exact {
    idle := entryAt_setEntry_self _ _ _
    others := fun k hk => entryAt_setEntry_ne _ _ hk.symm
    queue := queueWithout_eq s.intents l
    timers := fun k => by
      by_cases h : k = l
      · rw [if_pos h, h]
        exact entryAt_setEntry_self _ _ _
      · rw [if_neg h]
        exact entryAt_setEntry_ne _ _ (Ne.symm h)
    event := rfl
    offer := lockOffer_without s l
    rest := rfl }

/-! ### CANCEL (R145, Table 8-2) -/

theorem acquireOnWire_iff (s : State) (l : LockId) :
    s.acquireOnWire l = true ↔ ∃ m try_, s.intents.offer = some { frame := .acquire l m try_, onWire := true } := by
  unfold State.acquireOnWire
  split
  next k m try_ onWire h =>
    rw [h, Bool.and_eq_true, beq_iff_eq]
    constructor
    · rintro ⟨rfl, rfl⟩
      exact ⟨m, try_, rfl⟩
    · rintro ⟨m', try', heq⟩
      cases heq
      exact ⟨rfl, rfl⟩
  next h =>
    exact iff_of_false Bool.false_ne_true fun ⟨m, try_, heq⟩ => h _ _ _ _ heq

theorem State.endIntent_setPort (s : State) (x : HostPort) (l : LockId) (o : LockOutcome) :
    (s.setPort x).endIntent l o = (s.endIntent l o).setPort x := by
  rw [endIntent_eq, endIntent_eq]
  rfl

section
variable {s : State} {lock : Byte}

theorem State.cancelCommand_of_not_active (h : s.ctrl.station ≠ .active) :
    s.cancelCommand lock = (.wrongState, s) := if_pos h

theorem State.cancelCommand_of_out_of_range (hactive : s.ctrl.station = .active) (hlock : lockOf lock = none) :
    s.cancelCommand lock = (.range, s) := by
  simp [State.cancelCommand, hactive, hlock]

theorem State.cancelCommand_of_in_range {l : LockId} (hactive : s.ctrl.station = .active)
    (hlock : lockOf lock = some l) :
    s.cancelCommand lock = (match (s.intent l).state with
      | .waiting => (.ok, s.startCancel l .host)
      | .requesting =>
          if s.acquireOnWire l then
            if (s.intent l).mark = none then (.ok, s.markIntent l .host) else (.notWaiting, s)
          else (.ok, s.giveUpRequest l .host)
      | _ => (.notWaiting, s)) := by
  unfold State.cancelCommand
  rw [if_neg (not_not_intro hactive)]
  simp only [hlock]
  cases (s.intent l).state with
  | requesting => cases (s.intent l).mark <;> rfl
  | _ => rfl

theorem State.cancelCommand_setPort (s : State) (lock : Byte) (x : HostPort) :
    (s.setPort x).cancelCommand lock = ((s.cancelCommand lock).1, (s.cancelCommand lock).2.setPort x) := by
  by_cases hactive : s.ctrl.station = .active
  · cases hlock : lockOf lock with
    | none =>
      rw [cancelCommand_of_out_of_range hactive hlock, cancelCommand_of_out_of_range (s := s.setPort x) hactive hlock]
    | some l =>
      have hintent : (s.setPort x).intent l = s.intent l := rfl
      have hwire : (s.setPort x).acquireOnWire l = s.acquireOnWire l := rfl
      rw [cancelCommand_of_in_range hactive hlock, cancelCommand_of_in_range (s := s.setPort x) hactive hlock,
        hintent, hwire, State.giveUpRequest, State.endIntent_setPort]
      cases (s.intent l).state with
      | requesting =>
        dsimp only
        split
        · split <;> rfl
        · rfl
      | _ => rfl
  · rw [cancelCommand_of_not_active hactive, cancelCommand_of_not_active (s := s.setPort x) hactive]

/-- CANCEL, taken at its check byte: the answer of the Intent Unit in the state before the row, with the choice after a
taken one. -/
theorem exec_cancel_of_takes {check : Byte} (htakes : s.Takes 0x17 [lock] check) :
    exec (.cancel lock check) s =
      .next ((thenChoose (s.cancelCommand lock)).2.answered [0x17, lock]
        [statusCodeByte (thenChoose (s.cancelCommand lock)).1]) := by
  have htake (x : HostPort) : (s.setPort x).take (.cancel lock) =
      ((s.take (.cancel lock)).1, (s.take (.cancel lock)).2.1, (s.take (.cancel lock)).2.2.setPort x) := by
    simp only [State.take, State.cancelCommand_setPort, thenChoose_setPort]
  exact congrArg Host.Outcome.next (State.commandRow_eq_answered htakes rfl htake)

end

/-- Settles O19: the cases of Table 8-2 one by one, and the request given up as an intent's end. -/
theorem cancelFollowsTable8_2 : Obligations.CancelFollowsTable8_2 := by
  refine ⟨⟨fun lock check s htakes => ?_, fun l s => acquireOnWire_iff s l⟩, fun l cause s => ?_⟩
  · rw [exec_cancel_of_takes htakes]
    by_cases hactive : s.ctrl.station = .active
    · rw [if_neg (not_not_intro hactive)]
      by_cases hlock : lock.toNat < 64
      · rw [dif_pos hlock, State.cancelCommand_of_in_range hactive (lockOf_of_lt hlock)]
        dsimp only
        cases hstate : (s.intent ⟨lock.toNat, hlock⟩).state with
        | requesting =>
          dsimp only
          split
          · split
            · rw [State.markIntent, ← hstate]
              rfl
            · rfl
          · rfl
        | _ => rfl
      · rw [dif_neg hlock, State.cancelCommand_of_out_of_range hactive (lockOf_of_not_lt hlock)]
        rfl
    · rw [if_pos hactive, State.cancelCommand_of_not_active hactive]
      rfl
  · cases cause <;> exact endIntent_givesUp s l _

/-! ### The wait timer (R150, Table 8-4) -/

/-- Settles O48: the expiry of a running timer, by the intent's state. -/
theorem waitExpiryFollowsTable8_4 : Obligations.WaitExpiryFollowsTable8_4 := by
  intro l s hreset hrun
  have hexec : exec (.waitTimerExpiry l) s = .next (s.waitExpired l).choose := by
    refine congrArg Host.Outcome.next ((unlessReset_of_running hreset _).trans ?_)
    exact if_pos hrun
  rw [hexec]
  refine congrArg (fun t => Host.Outcome.next (State.choose t)) ?_
  unfold State.waitExpired
  cases (s.intent l).state with
  | requesting =>
    dsimp only
    cases (s.intent l).mark <;> rfl
  | _ => rfl

/-! ### The outcome notices (R146 to R149, Table 8-3) -/

/-- What a GRANTED notice leaves (R146, R148, R149, R151): the intent HELD with the token, its timer stopped, the event
raised, and the queue, the table and the controller as before. -/
theorem holdIntent_spec (s : State) (l : LockId) (m : Mode) (token : Word16) (overtaken : Bool) :
    let t := s.holdIntent l m token overtaken
    t.intent l =
        { state := .held, mode := some m, tryFlag := some ((s.intent l).tryFlag.getD (Config.freeTryFlag s.free)),
          waitLimit := some ((s.intent l).waitLimit.getD (Config.freeWaitLimit s.free)), cause := none, mark := none,
          token := some token, outstanding := none } ∧
      (∀ k, k ≠ l → t.intent k = s.intent k) ∧ entryAt t.intents.timers l = .stopped ∧
      t.events = s.events.place (.lock l (.granted m token overtaken)) ∧ t.intents.queue = s.intents.queue ∧
      t.table = s.table ∧ t.ctrl = s.ctrl := by
  have hfields : ∃ n : Nat, s.holdIntent l m token overtaken =
      { s with
        free := n
        intents := { s.intents with
          records := setEntry s.intents.records l
            { state := .held, mode := some m, tryFlag := some ((s.intent l).tryFlag.getD (Config.freeTryFlag s.free)),
              waitLimit := some ((s.intent l).waitLimit.getD (Config.freeWaitLimit s.free)), cause := none,
              mark := none, token := some token, outstanding := none }
          timers := setEntry s.intents.timers l .stopped }
        events := s.events.place (.lock l (.granted m token overtaken)) } := by
    unfold State.holdIntent
    dsimp only
    split
    · exact ⟨s.free, rfl⟩
    · exact ⟨s.free + 1, rfl⟩
  obtain ⟨n, h⟩ := hfields
  intro t
  rw [show t = _ from h]
  exact ⟨entryAt_setEntry_self _ _ _, fun k hk => entryAt_setEntry_ne _ _ hk.symm, entryAt_setEntry_self _ _ _,
    rfl, rfl, rfl, rfl⟩

theorem grantNotice_of_cancelling {s : State} {l : LockId} (h : (s.intent l).state = .cancelling) (m : Mode)
    (token : Word16) :
    s.grantNotice l m token = (s.withdraw (· == .cancel l)).holdIntent l m token true := by
  simp only [State.grantNotice, h]

theorem grantNotice_of_requesting {s : State} {l : LockId} (h : (s.intent l).state = .requesting) (m : Mode)
    (token : Word16) :
    s.grantNotice l m token = s.holdIntent l m token (s.acquireOnWire l && (s.intent l).mark.isSome) := by
  simp only [State.grantNotice, h]

theorem grantNotice_of_other {s : State} {l : LockId} (hcancel : (s.intent l).state ≠ .cancelling)
    (hrequest : (s.intent l).state ≠ .requesting) (m : Mode) (token : Word16) :
    s.grantNotice l m token = s.holdIntent l m token false := by
  unfold State.grantNotice
  dsimp only
  cases h : (s.intent l).state with
  | cancelling => exact absurd h hcancel
  | requesting => exact absurd h hrequest
  | _ => rfl

theorem queuedNotice_of_unmarked {s : State} {l : LockId} (h : (s.intent l).state = .requesting)
    (hmark : (s.intent l).mark = none) (m : Mode) (n : Nat) :
    s.queuedNotice l m n = (s.setIntent l { s.intent l with state := .waiting }).raiseLock l (.queued m n) := by
  simp only [State.queuedNotice, h, hmark]

theorem queuedNotice_of_marked {s : State} {l : LockId} {cause : CancelCause} (h : (s.intent l).state = .requesting)
    (hmark : (s.intent l).mark = some cause) (m : Mode) (n : Nat) :
    s.queuedNotice l m n =
      s.setIntent l
        { s.intent l with state := .cancelling, cause := some cause, mark := none, outstanding := some .due } := by
  simp only [State.queuedNotice, h, hmark]

theorem queuedNotice_of_other {s : State} {l : LockId} (h : (s.intent l).state ≠ .requesting) (m : Mode) (n : Nat) :
    s.queuedNotice l m n = s.endIntent l .lost := by
  unfold State.queuedNotice
  dsimp only
  split
  · exact absurd ‹_› h
  · exact absurd ‹_› h
  · rfl

theorem deniedNotice_eq (s : State) (l : LockId) :
    s.deniedNotice l = s.endIntent l (if (s.intent l).state = .requesting then .denied else .lost) := by
  unfold State.deniedNotice
  cases (s.intent l).state <;> rfl

theorem releasedNotice_eq (s : State) (l : LockId) :
    s.releasedNotice l = s.endIntent l (if (s.intent l).state = .releasing then .released else .lost) := by
  unfold State.releasedNotice
  cases (s.intent l).state <;> rfl

theorem cancelledNotice_of_cause {s : State} {l : LockId} {cause : CancelCause}
    (h : (s.intent l).state = .cancelling) (hcause : (s.intent l).cause = some cause) :
    s.cancelledNotice l = s.endIntent l cause.outcome := by
  simp only [State.cancelledNotice, h, hcause]

theorem cancelledNotice_of_other {s : State} {l : LockId} (h : (s.intent l).state ≠ .cancelling) :
    s.cancelledNotice l = s.endIntent l .lost := by
  unfold State.cancelledNotice
  split
  · exact absurd ‹_› h
  · rfl

/-- An overtaken CANCEL off the wire is no longer offered (R151). -/
theorem holdIntent_withdraw_offered {s : State} (hwire : s.sel.onWire = false) (f : Offered) (l : LockId) (m : Mode)
    (token : Word16) (overtaken : Bool) :
    ((s.withdraw (· == f)).holdIntent l m token overtaken).sel.offered ≠ some f := by
  have hsel : ((s.withdraw (· == f)).holdIntent l m token overtaken).sel = s.sel.without (· == f) := by
    rw [withdraw_eq]
    unfold State.holdIntent
    dsimp only
    split <;> rfl
  rw [hsel]
  cases ho : s.sel.offered with
  | none => simp [Selector.without_of_none ho, ho]
  | some g =>
    rw [Selector.without_of_some ho hwire]
    by_cases hg : g = f
    · simp [hg]
    · simp [hg, ho]

/-- Settles O54: each notice by the intent's state; the TRY flag and the wait limit that were absent are the free values
of the model. -/
theorem noticesMoveTheIntent : Obligations.NoticesMoveTheIntent := by
  refine ⟨fun s l m token n => ?_, fun s l => ?_⟩
  · refine ⟨(s.intent l).tryFlag.getD (Config.freeTryFlag s.free),
      (s.intent l).waitLimit.getD (Config.freeWaitLimit s.free), ?_⟩
    intro r held holds
    refine ⟨fun b hb => by rw [show (s.intent l).tryFlag = some b from hb]; rfl,
      fun w hw => by rw [show (s.intent l).waitLimit = some w from hw]; rfl,
      fun hstate hwire => ⟨?_, fun hmark => queuedNotice_of_unmarked hstate hmark m n,
        fun cause hmark => queuedNotice_of_marked hstate hmark m n⟩,
      fun hstate => ?_, fun hstate hwire => ⟨?_, ?_⟩, fun hstate => ?_⟩
    · show holds (s.grantNotice l m token) _
      rw [grantNotice_of_requesting hstate, hwire, Bool.true_and]
      exact holdIntent_spec s l m token _
    · show holds (s.grantNotice l m token) _
      rw [grantNotice_of_other (by rw [show (s.intent l).state = _ from hstate]; decide)
        (by rw [show (s.intent l).state = _ from hstate]; decide)]
      exact holdIntent_spec s l m token _
    · show holds (s.grantNotice l m token) _
      rw [grantNotice_of_cancelling hstate, withdraw_eq]
      exact holdIntent_spec { s with
        sel := s.sel.without (· == .cancel l)
        intents := { s.intents with offer := s.offerWithout (· == .cancel l) } } l m token true
    · show (s.grantNotice l m token).sel.offered ≠ _
      rw [grantNotice_of_cancelling hstate]
      exact holdIntent_withdraw_offered hwire _ l m token true
    · have hgrant : s.grantNotice l m token = s.holdIntent l m token false := by
        by_cases hrequest : (s.intent l).state = .requesting
        · have hwire : s.acquireOnWire l = false := by
            rcases hstate with h | h | h | h
            · exact absurd (hrequest.symm.trans h) (by decide)
            · exact absurd (hrequest.symm.trans h) (by decide)
            · exact absurd (hrequest.symm.trans h) (by decide)
            · exact h.2
          rw [grantNotice_of_requesting hrequest, hwire, Bool.false_and]
        · refine grantNotice_of_other (fun hcancel => ?_) hrequest m token
          rcases hstate with h | h | h | h
          · exact absurd (hcancel.symm.trans h) (by decide)
          · exact absurd (hcancel.symm.trans h) (by decide)
          · exact absurd (hcancel.symm.trans h) (by decide)
          · exact hrequest h.1
      have hholds : holds (s.grantNotice l m token) false := by
        rw [hgrant]
        exact holdIntent_spec s l m token false
      exact ⟨hholds, hholds⟩
  · intro r ends
    have ends_of {o : RequestOutcome} {ev : LockOutcome} (h : s.ownOutcome l o = s.endIntent l ev) : ends o ev := by
      show s.GivesUp (s.ownOutcome l o) l ev
      rw [h]
      exact endIntent_givesUp s l ev
    have hdenied := ends_of (o := .denied) (deniedNotice_eq s l)
    have hreleased := ends_of (o := .released) (releasedNotice_eq s l)
    refine ⟨?_, ?_, fun h => ends_of (o := .cancelled) (cancelledNotice_of_other h), fun cause h hcause => ?_, ends_of (o := .duplicate) rfl,
      ends_of (o := .releaseNoop) rfl, ends_of (o := .cancelVoid) rfl⟩
    · split
      next h => rwa [if_pos h] at hdenied
      next h => exact ⟨by rwa [if_neg h] at hdenied, fun m n => ends_of (o := .queued m n) (queuedNotice_of_other h m n)⟩
    · split
      next h => rwa [if_pos h] at hreleased
      next h => rwa [if_neg h] at hreleased
    · cases cause <;> exact ends_of (o := .cancelled) (cancelledNotice_of_cause h hcause)

end Sys2Proof.Machine
end

section
/-! SUPPORT. The Transmit Selector (chapter 7): the order of sources, the start of an offer at an SOF, the choice, and
the loss of arbitration. -/

namespace Sys2Proof.Machine

/-! ### The order of sources (Table 7-1) -/

section
variable (s : State) (f : Offered)

theorem controlFrame_eq_some_iff :
    s.controlFrame = some f ↔
      (s.ctrl.control = some .join ∧ f = .join) ∨ (s.ctrl.control = some .genesis ∧ f = .genesis) ∨
        (s.ctrl.control = some .ready ∧ f = .ready) := by
  unfold State.controlFrame
  cases s.ctrl.control with
  | none => simp
  | some c => cases c <;> simp [Control.offer, eq_comm (a := f)]

theorem controlFrame_eq_none_iff : s.controlFrame = none ↔ s.ctrl.control = none := Option.map_eq_none_iff

theorem evictFrame_eq_some_iff :
    s.evictFrame = some f ↔
      ∃ x, f = .evict x ∧ inSet s.ctrl.evicts x = true ∧ ∀ y, y < x → inSet s.ctrl.evicts y = false := by
  simp only [State.evictFrame, lowestOf, allStations, Option.map_eq_some_iff, find?_finRange_eq_some_iff]
  exact exists_congr fun x => ⟨fun ⟨h, hf⟩ => ⟨hf.symm, h⟩, fun ⟨hf, h⟩ => ⟨h, hf.symm⟩⟩

theorem evictFrame_eq_none_iff : s.evictFrame = none ↔ ∀ x, inSet s.ctrl.evicts x = false := by
  simp [State.evictFrame, lowestOf, allStations]

theorem presenceFrame_eq_some_iff : s.presenceFrame = some f ↔ s.ctrl.presencePending = true ∧ f = .presence := by
  unfold State.presenceFrame
  split <;> simp_all [eq_comm (a := f)]

theorem presenceFrame_eq_none_iff : s.presenceFrame = none ↔ s.ctrl.presencePending = false := by
  simp [State.presenceFrame]

theorem cancelFrame_eq_some_iff :
    s.cancelFrame = some f ↔ ∃ l, f = .cancel l ∧ (s.intent l).outstanding = some .due ∧
      ∀ k, k < l → (s.intent k).outstanding ≠ some .due := by
  simp only [State.cancelFrame, allLocks, Option.map_eq_some_iff, find?_finRange_eq_some_iff, beq_iff_eq, beq_eq_false_iff_ne]
  exact exists_congr fun x => ⟨fun ⟨h, hf⟩ => ⟨hf.symm, h⟩, fun ⟨hf, h⟩ => ⟨h, hf.symm⟩⟩

theorem cancelFrame_eq_none_iff : s.cancelFrame = none ↔ ∀ l, (s.intent l).outstanding ≠ some .due := by
  simp [State.cancelFrame, allLocks]

/-- A CANCEL due is passed over where the yield flag stands (R131). -/
theorem heldCancel_eq_some_iff :
    s.unlessHeld s.cancelFrame = some f ↔
      s.sel.yieldFlag = false ∧ ∃ l, f = .cancel l ∧ (s.intent l).outstanding = some .due ∧
        ∀ k, k < l → (s.intent k).outstanding ≠ some .due := by
  rw [← cancelFrame_eq_some_iff, State.unlessHeld, Option.filter_eq_some_iff, and_comm]
  refine and_congr_left fun h => ?_
  obtain ⟨l, rfl, -⟩ := (cancelFrame_eq_some_iff s f).mp h
  simp [State.heldBack, show requestClass (Offered.cancel l).kind = true from rfl]

theorem heldCancel_eq_none_iff :
    s.unlessHeld s.cancelFrame = none ↔
      s.sel.yieldFlag = true ∨ ∀ l, (s.intent l).outstanding ≠ some .due := by
  rw [← cancelFrame_eq_none_iff]
  cases hc : s.cancelFrame with
  | none => simp [State.unlessHeld]
  | some g =>
    obtain ⟨l, rfl, -⟩ := (cancelFrame_eq_some_iff s g).mp hc
    cases hy : s.sel.yieldFlag <;>
      simp [State.unlessHeld, State.heldBack, hy, show requestClass (Offered.cancel l).kind = true from rfl]

/-- The head of the request queue is passed over where the yield flag stands and it is of the request class (R131). -/
theorem heldQueue_eq_some_iff :
    s.unlessHeld s.queueFrame = some f ↔
      (∃ rest l m y, s.intents.queue = .acquire l m y :: rest ∧ f = .acquire l m y ∧ s.sel.yieldFlag = false) ∨
        (∃ rest l, s.intents.queue = .release l :: rest ∧ f = .release l ∧ s.sel.yieldFlag = false) ∨
        (∃ rest, s.intents.queue = .leave :: rest ∧ f = .leave) := by
  unfold State.queueFrame State.unlessHeld State.heldBack
  cases s.intents.queue with
  | nil => simp
  | cons e rest =>
    rw [List.head?_cons, Option.map_some, Option.filter_some]
    cases e with
    | acquire l m y =>
      rw [show requestClass (QueueEntry.acquire l m y).offer.kind = true from rfl, Bool.and_true]
      cases s.sel.yieldFlag with
      | true => simp
      | false =>
        refine ⟨fun h => .inl ⟨rest, l, m, y, rfl, (Option.some.inj h).symm, rfl⟩, ?_⟩
        rintro (⟨_, _, _, _, h, rfl, -⟩ | ⟨_, _, h, -⟩ | ⟨_, h, -⟩)
        · cases h
          rfl
        · exact nomatch h
        · exact nomatch h
    | release l =>
      rw [show requestClass (QueueEntry.release l).offer.kind = true from rfl, Bool.and_true]
      cases s.sel.yieldFlag <;> simp [QueueEntry.offer, eq_comm (a := f)]
    | leave =>
      rw [show requestClass QueueEntry.leave.offer.kind = false from rfl, Bool.and_false]
      simp [QueueEntry.offer, eq_comm (a := f)]

end

/-- Settles O28: the places of Table 7-1 one after the other; the segment on offer, its content, and the frame offered. -/
theorem sourcesAreTakenInOrder : Obligations.SourcesAreTakenInOrder := by
  refine ⟨fun s f => ?_, fun u => ⟨fun img hphase himg => ?_, fun hphase => ?_⟩, fun img => ⟨rfl, fun k hk => ?_⟩,
    fun f epoch => by cases f <;> rfl⟩
  · unfold State.firstAvailable
    simp only [Option.orElse_eq_some, controlFrame_eq_some_iff, controlFrame_eq_none_iff,
      evictFrame_eq_some_iff, evictFrame_eq_none_iff, presenceFrame_eq_some_iff, presenceFrame_eq_none_iff,
      heldCancel_eq_some_iff, heldCancel_eq_none_iff, heldQueue_eq_some_iff, or_assoc]
  · simp [TransferUnit.offer, hphase, himg]
  · simp [TransferUnit.offer, hphase]
  · rw [Image.segment, dif_pos hk]
    refine congrArg₂ (Segment.locks _) (congrArg _ (Fin.ext ?_)) (congrArg _ (Fin.ext ?_))
    · show 2 * (k.val - 1) = 2 * k.val - 2
      omega
    · show 2 * (k.val - 1) + 1 = 2 * k.val - 1
      omega

/-! ### The start of an offer at an SOF (R5, R10, R133, R141) -/

/-- The intent records once the place of a CANCEL has followed its frame. -/
def IntentUnit.recordsWith (x : IntentUnit) (f : Offered) (p : CancelPlace) : Vector IntentRecord 64 :=
  match f with
  | .cancel l =>
      if (entryAt x.records l).outstanding.isSome then
        setEntry x.records l { entryAt x.records l with outstanding := some p }
      else x.records
  | _ => x.records

theorem entryAt_recordsWith (x : IntentUnit) (f : Offered) (p : CancelPlace) (l : LockId) :
    entryAt (x.recordsWith f p) l =
      if f = .cancel l ∧ (entryAt x.records l).outstanding.isSome then
        { entryAt x.records l with outstanding := some p }
      else entryAt x.records l := by
  unfold IntentUnit.recordsWith
  cases f with
  | cancel k =>
    dsimp only
    by_cases h : k = l
    · subst h
      split
      · rw [entryAt_setEntry_self, if_pos ⟨rfl, ‹_›⟩]
      · rw [if_neg fun h => ‹¬ _› h.2]
    · have hne : ¬ (Offered.cancel k = .cancel l ∧ (entryAt x.records l).outstanding.isSome = true) :=
        fun h' => h (Offered.cancel.inj h'.1)
      rw [if_neg hne]
      split
      · exact entryAt_setEntry_ne _ _ h
      · rfl
  | _ => exact (if_neg fun h => nomatch h.1).symm

theorem recordOffer_eq (s : State) (f : Offered) (onWire : Bool) :
    s.recordOffer f onWire =
      { s with intents := { s.intents with
          offer := some { frame := f, onWire }
          records := s.intents.recordsWith f (if onWire then .onWire else .placed) } } := by
  unfold State.recordOffer IntentUnit.recordsWith
  cases f with
  | cancel l =>
    dsimp only
    unfold State.placeCancel
    dsimp only
    rw [show (s.setIntents { s.intents with offer := some ⟨.cancel l, onWire⟩ }).intent l =
      entryAt s.intents.records l from rfl]
    split <;> rfl
  | _ => rfl

theorem recordsWith_of_source (x : IntentUnit) {f : Offered} (h : f.source ≠ .intents) (p : CancelPlace) :
    x.recordsWith f p = x.records := by
  cases f with
  | cancel l => exact absurd rfl h
  | _ => rfl

theorem driveSof_sofDriven {s : State} {f : Offered} (h : s.sel.offered = some f) : s.SofDriven s.driveSof f := by
  have hsof : s.driveSof =
      { s with
        line := { s.line with
          tx := .contending, aborted := false, fixed := some { sender := s.ctrl.id, content := f.content s.epochValue },
          bitFault := false, rx := .body, reception := .following, assembly := .empty, dominant := 0 }
        sel := { offered := some f, onWire := true, yieldFlag := false, yieldWait := .stopped }
        intents := { s.intents with
          offer := if f.source = .intents then some { frame := f, onWire := true } else s.intents.offer
          records := s.intents.recordsWith f .onWire } } := by
    simp only [State.driveSof, h]
    split
    · rw [recordOffer_eq]
      simp [State.busStarts, State.setSel, State.setLine, Selector.clearYield, h]
    · rw [recordsWith_of_source _ ‹_›]
      simp [State.busStarts, State.setSel, State.setLine, Selector.clearYield, h]
  rw [hsof]
  exact ⟨rfl, rfl, rfl, fun l => entryAt_recordsWith s.intents f .onWire l, rfl⟩

/-- A frame placed and put on the wire at once is a frame put on the wire: the place of a CANCEL ends on the wire. -/
theorem driveSof_placeFrame_sofDriven (s : State) (f : Offered) : s.SofDriven (s.placeFrame f).driveSof f := by
  have hplace : s.placeFrame f =
      { s with
        sel := { s.sel with offered := some f, onWire := false }
        intents := { s.intents with
          offer := if f.source = .intents then some { frame := f, onWire := false } else s.intents.offer
          records := s.intents.recordsWith f .placed } } := by
    unfold State.placeFrame
    dsimp only
    split
    · rw [recordOffer_eq]
      rfl
    · rw [recordsWith_of_source _ ‹_›]
      rfl
  have hdriven := driveSof_sofDriven (s := s.placeFrame f) (f := f) (by rw [hplace])
  rw [hplace] at hdriven ⊢
  obtain ⟨hline, hsel, hoffer, hrecords, hrest⟩ := hdriven
  refine ⟨hline, hsel, ?_, fun l => ?_, hrest⟩
  · rw [hoffer]
    split <;> rfl
  · rw [hrecords l]
    show (if f = .cancel l ∧ (entryAt (s.intents.recordsWith f .placed) l).outstanding.isSome = true then
        { entryAt (s.intents.recordsWith f .placed) l with outstanding := some .onWire }
      else entryAt (s.intents.recordsWith f .placed) l) = _
    rw [entryAt_recordsWith]
    by_cases h : f = .cancel l ∧ (entryAt s.intents.records l).outstanding.isSome
    · rw [if_pos h, if_pos ⟨h.1, rfl⟩]
      exact (if_pos h).symm
    · rw [if_neg h, if_neg h]
      exact (if_neg h).symm

theorem choice_chosen (s : State) : s.Chosen s.choice := by
  unfold State.choice
  refine ⟨fun f hf => ?_, fun hnone => ?_⟩
  · rw [hf]
    exact driveSof_placeFrame_sofDriven s f
  · rw [hnone]
    dsimp only
    split <;> rfl

theorem choose_of_idle {s : State} (hquiet : s.line.rx = .quiet) (hnone : s.sel.offered = none) :
    s.choose = s.choice := if_pos ⟨hquiet, hnone⟩

theorem choose_of_not_idle {s : State} (h : s.line.rx ≠ .quiet ∨ s.sel.offered ≠ none) : s.choose = s :=
  if_neg fun ⟨hquiet, hnone⟩ => h.elim (· hquiet) (· hnone)

/-- Settles O27. -/
theorem choiceNeedsAnIdleLine : Obligations.ChoiceNeedsAnIdleLine := by
  refine ⟨fun s => ⟨choose_of_not_idle, fun hquiet hnone => ?_⟩, fun s hreset hrun hquiet hnone => ?_⟩
  · rw [choose_of_idle hquiet hnone]
    exact choice_chosen s
  · refine ⟨s.clearYield.choice, congrArg Host.Outcome.next ((unlessReset_of_running hreset _).trans ?_),
      choice_chosen _⟩
    calc s.expire s.sel.yieldWait State.yieldWaitOver
      _ = s.yieldWaitOver.choose := if_pos hrun
      _ = s.clearYield.choose := congrArg State.choose (if_pos hquiet)
      _ = s.clearYield.choice := choose_of_idle hquiet hnone

/-! ### Idle and bus start -/

/-- Settles O25: the settled line, and on it the offered frame's SOF or the choice. -/
theorem idleLineStartsTheNextOffer : Obligations.IdleLineStartsTheNextOffer := by
  intro s hidle idle
  obtain ⟨hreset, hrx, hundelivered, hown⟩ := hidle
  have hexec : exec .lineIdle s = .next idle.offerAtIdle := by
    refine congrArg Host.Outcome.next ((atIdle_of_running hreset _).trans (if_neg ?_))
    simp [hrx, hundelivered, hown]
  rw [hexec]
  refine ⟨fun f hf => ⟨_, rfl, ?_⟩, fun hnone => ⟨_, rfl, ?_⟩⟩
  · have hoffer : idle.offerAtIdle = idle.driveSof := by
      rw [State.offerAtIdle, show idle.sel.offered = some f from hf]
    rw [hoffer]
    exact driveSof_sofDriven hf
  · have hoffer : idle.offerAtIdle = idle.choice := by
      rw [State.offerAtIdle, show idle.sel.offered = none from hnone]
    rw [hoffer]
    exact choice_chosen idle

/-- Settles O26. -/
theorem busStartReceivesOrJoins : Obligations.BusStartReceivesOrJoins := by
  intro s hreset hquiet
  have hexec : exec .busStart s = .next s.busStart :=
    congrArg Host.Outcome.next (unlessReset_of_running hreset _)
  rw [hexec, State.busStart, if_pos hquiet]
  refine ⟨fun hnone => ?_, fun f hf => ⟨_, rfl, ?_⟩⟩
  · rw [hnone]
    rfl
  · rw [hf]
    exact driveSof_sofDriven hf

/-! ### The loss of arbitration (R11, R12, R134) -/

theorem recordOffer_of_not_cancel (s : State) {f : Offered} (h : ∀ l, f ≠ .cancel l) (onWire : Bool) :
    s.recordOffer f onWire = { s with intents := { s.intents with offer := some { frame := f, onWire } } } := by
  unfold State.recordOffer
  cases f with
  | cancel l => exact absurd rfl (h l)
  | _ => rfl

theorem setEntry_setEntry {α : Type} {n : Nat} (t : Vector α n) (i : Fin n) (a b : α) :
    setEntry (setEntry t i a) i b = setEntry t i b :=
  table_ext fun j => by
    by_cases h : i = j
    · rw [← h, entryAt_setEntry_self, entryAt_setEntry_self]
    · rw [entryAt_setEntry_ne _ _ h, entryAt_setEntry_ne _ _ h, entryAt_setEntry_ne _ _ h]

theorem setEntry_entryAt {α : Type} {n : Nat} (t : Vector α n) (i : Fin n) : setEntry t i (entryAt t i) = t :=
  table_ext fun j => by
    by_cases h : i = j
    · rw [← h, entryAt_setEntry_self]
    · rw [entryAt_setEntry_ne _ _ h]

/-- An intent record whose outstanding CANCEL, if any, is placed (R141). -/
def IntentRecord.placed (r : IntentRecord) : IntentRecord :=
  if r.outstanding.isSome then { r with outstanding := some .placed } else r

theorem IntentRecord.placed_cleared (r : IntentRecord) :
    { r.placed with outstanding := none } = { r with outstanding := none } := by
  unfold IntentRecord.placed
  split <;> rfl

/-- A CANCEL that is off the wire again: placed where its intent is CANCELLING, withdrawn and no longer outstanding where
it is not (R141, R153). -/
theorem cancelOfferKept_eq (s : State) {l : LockId} (h : s.sel.offered = some (.cancel l))
    (hwire : s.sel.onWire = false) :
    s.intentOfferKept (.cancel l) =
      (let told : State := { s with intents := { s.intents with offer := some { frame := .cancel l, onWire := false } } }
      let r := s.intent l
      if r.state = .cancelling then
        told.setIntent l (if r.outstanding.isSome then { r with outstanding := some .placed } else r)
      else
        { told with
          sel := { told.sel with offered := none },
          intents := { told.intents with offer := none } }.setIntent l { r with outstanding := none }) := by
  have hrecords : s.intents.recordsWith (.cancel l) .placed = setEntry s.intents.records l (s.intent l).placed := by
    unfold IntentRecord.placed
    by_cases hout : (s.intent l).outstanding.isSome
    · rw [if_pos hout]
      exact if_pos hout
    · rw [if_neg hout, State.intent, setEntry_entryAt]
      exact if_neg hout
  rw [State.intentOfferKept, recordOffer_eq, if_neg Bool.false_ne_true, hrecords]
  dsimp only
  split
  · rfl
  · rw [withdraw_eq, Selector.without_of_some h hwire, State.offerWithout]
    simp [h, hwire, State.clearCancel, State.setIntent, State.intent, State.setIntents, setEntry_setEntry,
      IntentRecord.placed_cleared, Offered.source]

/-- The end LOST or RETRY of an offer: the frame stays offered, off the wire, and its source acts (R134, R135). -/
theorem endKept_eq_offerKept (s : State) {f : Offered} (h : s.sel.offered = some f) {r : OfferEnd}
    (hr : r = .lost ∨ r = .retry) : s.endKept f r = s.offerKept f := by
  have hintents (x : State) (g : Offered) : x.intentOfferEnd g r = x.intentOfferKept g := by
    rcases hr with rfl | rfl <;> rfl
  unfold State.endKept State.reportEnd State.offerKept
  cases f with
  | ready =>
    have hready (x : State) : x.controlOfferEnd .ready r = x.readyKept := by rcases hr with rfl | rfl <;> rfl
    dsimp only [Offered.source]
    rw [hready, State.readyKept]
    rfl
  | join | genesis | evict | presence => rcases hr with rfl | rfl <;> rfl
  | segment => rfl
  | release l => exact hintents _ _
  | leave => exact hintents _ _
  | acquire l m t =>
    dsimp only [Offered.source]
    rw [hintents, State.intentOfferKept, recordOffer_of_not_cancel (f := .acquire l m t) _ (by simp)]
    rfl
  | cancel l =>
    dsimp only [Offered.source]
    rw [hintents]
    exact cancelOfferKept_eq (s.setSel { s.sel with onWire := false }) h rfl

/-- Settles O29: a lost contender is idle, and its offer has ended LOST. -/
theorem lostArbitrationKeepsTheOffer : Obligations.LostArbitrationKeepsTheOffer := by
  intro s f hreset hcontending hf
  refine congrArg Host.Outcome.next ((unlessReset_of_running hreset _).trans ?_)
  let u : State := s.setLine { s.line with tx := .idle, fixed := none, bitFault := false }
  calc s.arbitrationLost
    _ = u.endOffer .lost := if_pos hcontending
    _ = u.endKept f .lost := by rw [State.endOffer, show u.sel.offered = some f from hf]
    _ = u.offerKept f := endKept_eq_offerKept u hf (.inl rfl)

end Sys2Proof.Machine
end

section
/-! SUPPORT. The Line Unit (chapters 1 and 2): the CRC hand-off, bit faults and flags, line faults by phase, the outcome
of a delivery, and the timers of chapters 4 and 5. -/

namespace Sys2Proof.Machine

/-! ### The CRC hand-off (R14, R15, R19 to R21) -/

/-- Table 2-1 for a frame with contents at an ACTIVE station, by the kind. -/
theorem activeDrive_eq (s : State) (sender : StationId) (c : Content) :
    s.activeDrive sender c = (match c.kind with
      | .genesis => { reject := false, agree := false, dissent := true }
      | .join | .snapshot => { reject := false, agree := false, dissent := false }
      | _ => { reject := false, agree := s.epochCheck sender c, dissent := !s.epochCheck sender c }) := by
  cases c <;> rfl

/-- Settles O30: what a receiver drives by its station state and Table 2-1, and what the sender drives. -/
theorem handOffOfTheCrcDecidesTheDrive : Obligations.HandOffOfTheCrcDecidesTheDrive := by
  refine ⟨fun raw s hreset hfollows hbody hplaced => ⟨s.handOffReceived raw,
    exec_crcHandoff_received hreset hfollows hbody hplaced, rfl, rfl, ?_⟩, fun raw s hreset hfollows hbody => ?_⟩
  · rw [State.handOffReceived_drive]
    unfold State.driveFor
    cases hstation : s.ctrl.station with
    | detached | fault => rfl
    | active =>
      cases formatFaultOf raw s.ctrl.id with
      | true => rfl
      | false =>
        cases contentOf raw with
        | none => rfl
        | some c =>
          refine (activeDrive_eq s raw.sender c).trans ?_
          cases c <;> rfl
    | seeking | founding | receiving | synced =>
      cases hformat : formatFaultOf raw s.ctrl.id with
      | true => rfl
      | false =>
        have hcontent : contentOf raw ≠ none := fun hnone => by simp [formatFaultOf, hnone] at hformat
        obtain ⟨c, hc⟩ := Option.ne_none_iff_exists'.mp hcontent
        rw [hc]
        rfl
  · refine congrArg Host.Outcome.next ((unlessReset_of_running hreset _).trans ?_)
    rw [State.crcHandoff, if_pos hfollows, if_pos hbody]
    rfl

/-! ### Bit faults, flags and line faults (R12, R16 to R18) -/

/-- The assembly of a frame that is flagged (R16). -/
def flaggedAssembly : FlagCause → Assembly
  | .unknownKind code => { Assembly.empty with code := some code, formatFault := true, errorFlag := true }
  | .lengthFault code sender length =>
      { Assembly.empty with code := some code, sender := some sender, length := some length, formatFault := true,
                            errorFlag := true }

theorem flagAssembly_of_wf {cause : FlagCause} (h : cause.wf = true) : flagAssembly cause = some (flaggedAssembly cause) := by
  obtain ⟨a, ha⟩ := Option.isSome_iff_exists.mp h
  rw [ha]
  cases cause with
  | unknownKind code =>
    simp only [flagAssembly] at ha
    split at ha
    · exact ha.symm
    · exact nomatch ha
  | lengthFault code sender length =>
    simp only [flagAssembly] at ha
    split at ha
    · split at ha
      · exact ha.symm
      · exact nomatch ha
    · exact nomatch ha

/-- Settles O32. -/
theorem bitFaultsAndErrorFlags : Obligations.BitFaultsAndErrorFlags := by
  refine ⟨fun cell s hreset => ?_, fun cause s hreset hfollows hwf => ?_⟩
  · refine congrArg Host.Outcome.next ((unlessReset_of_running hreset _).trans ?_)
    unfold State.bitFaultDetected
    cases cell <;> cases s.line.tx <;> rfl
  · have hexec : exec (.errorFlag cause) s = .next (if s.line.inBody then
        s.setLine { s.line with bitFault := true, tx := .sending } else
        match flagAssembly cause with
        | some a => s.flagFrame a
        | none => s) := by
      refine congrArg Host.Outcome.next ((unlessReset_of_running hreset _).trans ?_)
      exact if_pos hfollows
    rw [hexec, flagAssembly_of_wf hwf]
    refine ⟨fun hbody => ?_, fun hbody hsilent => ?_, fun hbody hsilent => ?_⟩
    · rw [if_pos hbody]
      rfl
    · rw [if_neg (by simp [hbody])]
      have hflag : s.flagFrame (flaggedAssembly cause) = s.setLine { s.line with assembly := flaggedAssembly cause } :=
        if_neg (by simp [hsilent])
      refine (congrArg Host.Outcome.next hflag).trans ?_
      cases cause <;> rfl
    · rw [if_neg (by simp [hbody])]
      have hlost : s.flagFrame (flaggedAssembly cause) =
          s.setLine { s.line with
            assembly := { flaggedAssembly cause with errorFlag := false }, reception := .lostPlace } := if_pos hsilent
      refine ⟨_, congrArg Host.Outcome.next hlost, rfl, ?_, rfl⟩
      simp [State.drivesFlag, State.setLine]

section
variable {u : LineUnit} (m : LineFault)

theorem faultByPhase_of_pause (h : u.rx = .settling ∨ u.rx = .quiet) : u.faultByPhase m = u := by
  rcases h with h | h <;> simp only [LineUnit.faultByPhase, h]

theorem faultByPhase_of_body (h : u.rx = .body) :
    u.faultByPhase m =
      if u.inBody || u.assembly.errorFlag then u else { u with reception := bodyFault u.reception m } := by
  cases u
  cases h
  rfl

theorem faultByPhase_of_verdict (hrx : u.rx = .verdict) (hfollow : u.reception = .following) :
    u.faultByPhase m = (match m with
      | .recessive => u
      | .missingEdge | .framingFault => { u with reception := .slotFault }
      | .endDominant | .closingEdge =>
          { u with reception := .slotFault, rx := .closing, tx := if u.tx = .slots then .ending else u.tx }) := by
  cases u
  cases hrx
  cases hfollow
  cases m <;> rfl

theorem faultByPhase_of_closing (hrx : u.rx = .closing) (hfollow : u.reception = .following) :
    u.faultByPhase m = { u with reception := (match m with
      | .framingFault | .closingEdge => .slotFault
      | .recessive | .missingEdge | .endDominant => .following) } := by
  cases u
  cases hrx
  cases hfollow
  cases m <;> rfl

end

/-- Settles O33: the level shown, then the fault by the phase that meets it. -/
theorem lineFaultsByPhase : Obligations.LineFaultsByPhase := by
  intro met s hreset
  refine ⟨s.setLine (s.line.lineFault met), congrArg Host.Outcome.next (unlessReset_of_running hreset _), ?_⟩
  intro seen
  have hseen : s.line.seeLevel met = seen := by cases met <;> rfl
  have hline : (s.setLine (s.line.lineFault met)).line = seen.faultByPhase met := congrArg (·.faultByPhase met) hseen
  refine ⟨rfl, fun h => hline.trans (faultByPhase_of_pause met h), fun hrx h => hline.trans ?_,
    fun hrx hbody hflag => hline.trans ?_, fun hrx hfollow => hline.trans ?_, fun hrx hfollow => hline.trans ?_⟩
  · exact (faultByPhase_of_body (u := seen) met hrx).trans (if_pos (Bool.or_eq_true_iff.mpr h))
  · refine (faultByPhase_of_body (u := seen) met hrx).trans ((if_neg ?_).trans ?_)
    · exact fun h => (Bool.or_eq_true_iff.mp h).elim (fun h => Bool.false_ne_true (hbody.symm.trans h))
        fun h => Bool.false_ne_true (hflag.symm.trans h)
    · unfold bodyFault
      cases s.line.reception <;> cases met <;> rfl
  · exact (faultByPhase_of_verdict (u := seen) met hrx hfollow).trans (by cases met <;> rfl)
  · exact (faultByPhase_of_closing (u := seen) met hrx hfollow).trans (by cases met <;> rfl)

/-! ### Delivery (R13 to R18, R22) -/

theorem driveMissed_iff (d : DriveRecord) (slots : Slots) :
    driveMissed d slots = true ↔
      (d.reject = true ∧ slots.reject = false) ∨ (d.agree = true ∧ slots.agree = false) ∨
        (d.dissent = true ∧ slots.dissent = false) := by
  simp [driveMissed, or_assoc]

theorem frame?_of_contentOf {a : Assembly} {raw : RawFrame} {c : Content} (hcode : a.code = some raw.code)
    (hsender : a.sender = some raw.sender) (hpayload : a.payload = raw.payload) (hcontent : contentOf raw = some c) :
    a.frame? = some { sender := raw.sender, content := c } := by
  rw [contentOf] at hcontent
  simp [Assembly.frame?, hcode, hsender, hpayload, hcontent]

/-- Settles O35: the outcome by flag, fault and slots (Table 2-2), and the contents by the sender. -/
theorem outcomeFollowsTable2_2 : Obligations.OutcomeFollowsTable2_2 := by
  intro slots s d missed faulted
  have hverdict : d.verdict = s.line.judge s.commit.drive slots := rfl
  have hmissed : driveMissed s.commit.drive slots = true ↔ missed := driveMissed_iff _ _
  refine ⟨fun hflag => ?_, fun hflag hfault => ?_, fun hflag hsound => ?_, fun hown => ⟨hown, ?_⟩,
    fun hown => ⟨hown, fun hfault => ?_, fun hformat hflag hplace raw c hcode hsender hpayload hcontent => ?_⟩⟩
  · rw [hverdict, LineUnit.judge, if_pos hflag]
  · rw [hverdict, LineUnit.judge, if_neg (by simp [hflag])]
    rcases hfault with h | h | h
    · simp [h]
    · simp [h]
    · simp [verdictOf, hmissed.mpr h]
  · have hjudge : d.verdict = verdictOf s.commit.drive slots := by
      rw [hverdict, LineUnit.judge, if_neg (by simp [hflag])]
      exact if_neg fun h => hsound (by simpa [faulted, or_assoc] using Or.imp id (fun x => Or.inl x) (by simpa using h))
    have hnot : ¬ driveMissed s.commit.drive slots = true := fun h => hsound (.inr (.inr (hmissed.mp h)))
    rw [hjudge, verdictOf, if_neg hnot]
    exact ⟨fun hr => if_pos hr, fun hr hd => by simp [hr, hd], fun hr hd => by simp [hr, hd]⟩
  · exact if_pos hown
  · have hframe : d.frame = s.line.received := if_neg (by simp [hown])
    rw [hframe, LineUnit.received]
    exact if_pos (by simpa [or_assoc] using hfault)
  · have hframe : d.frame = s.line.received := if_neg (by simp [hown])
    rw [hframe, LineUnit.received, if_neg (by simp [hformat, hflag, hplace])]
    exact frame?_of_contentOf hcode hsender hpayload hcontent

/-- Settles O36. -/
theorem discardedDeliveryChangesNothing : Obligations.DiscardedDeliveryChangesNothing := by
  intro slots s hreset hdiscard
  refine ⟨s.takeDelivery slots, congrArg Host.Outcome.next ((atIdle_of_running hreset _).trans ?_), rfl, rfl, rfl, rfl,
    rfl⟩
  unfold State.frameDelivery
  by_cases hno : (s.line.aborted || (s.line.rx == .body && s.line.reception == .abandoned)) = true
  · exact if_pos hno
  · rw [if_neg hno]
    have hsilent : s.line.undelivered = true ∧ s.ctrl.station.silent = true := by
      rcases hdiscard with h | h | h
      · exact absurd (by simp [h]) hno
      · exact absurd (by simp [h]) hno
      · exact h
    rw [if_pos hsilent.1, if_pos hsilent.2]

/-! ### The timers of presence, silence and joining (R75, R78, R88, R89) -/

theorem expire_of_running {s : State} {timer : Timer} (h : timer = .running) (effect : State → State) :
    s.expire timer effect = (effect s).choose := if_pos h

/-- Settles O46. -/
theorem presenceAndSilenceExpiry : Obligations.PresenceAndSilenceExpiry := by
  refine ⟨fun s hreset hrun => ?_, fun peer s hreset hrun => ?_⟩
  · exact congrArg Host.Outcome.next ((unlessReset_of_running hreset _).trans (expire_of_running hrun _))
  · refine ⟨s.silenceExpired peer,
      congrArg Host.Outcome.next ((unlessReset_of_running hreset _).trans (expire_of_running hrun _)), rfl, rfl,
      fun i => ?_, fun i => ?_⟩
    · show entryAt (setEntry s.ctrl.silence peer .stopped) i = _
      by_cases h : i = peer
      · rw [if_pos h, h, entryAt_setEntry_self]
      · rw [if_neg h, entryAt_setEntry_ne _ _ (Ne.symm h)]
    · refine (inSet_addTo _ _ _).trans ?_
      rw [Bool.or_comm, show decide (peer = i) = decide (i = peer) from decide_eq_decide.mpr eq_comm]
      rfl

theorem isOnWire_iff (s : State) (f : Offered) :
    s.isOnWire f = true ↔ s.sel.onWire = true ∧ s.sel.offered = some f := by
  simp [State.isOnWire]

/-- A control frame off the wire is no longer offered once the Station Controller has withdrawn its frames (R136). -/
theorem without_controller_offered {x : Selector} {f : Offered} (h : x.offered = some f) (hsource : f.source = .controller)
    (hwire : x.onWire = false) : (x.without (·.source == .controller)).offered = none := by
  rw [Selector.without_of_some h hwire, if_pos (by simp [hsource])]

/-- Settles O47: the first-contact timer by the contact mark; the join deadline held, or JOIN re-queued or given up. -/
theorem joinTimersExpire : Obligations.JoinTimersExpire := by
  refine ⟨fun s hreset hrun => ?_, fun s hreset hrun => ?_⟩
  · have hexec : exec .firstContactExpiry s = .next s.firstContactExpired.choose :=
      congrArg Host.Outcome.next ((unlessReset_of_running hreset _).trans (expire_of_running hrun _))
    rw [hexec]
    refine ⟨fun hcontact => ?_, fun hcontact => ⟨s.firstContactExpired, rfl, ?_⟩⟩
    · rw [State.firstContactExpired, if_pos hcontact]
      rfl
    · rw [State.firstContactExpired, if_neg (by simp [hcontact]), closeLog_eq]
      refine ⟨rfl, rfl, rfl, fun h => ?_, fun h => ?_⟩
      · show (if s.transfer.phase = .loading then TableEngine.discarded else s.table).validity = .none
        rw [if_pos h]
        rfl
      · exact if_neg h
  · have hexec : exec .joinDeadlineExpiry s = .next s.joinDeadlineExpired.choose :=
      congrArg Host.Outcome.next ((unlessReset_of_running hreset _).trans (expire_of_running hrun _))
    rw [hexec]
    refine ⟨fun hwire => ?_, fun hwire => ⟨s.requeueJoin, ?_, ?_⟩⟩
    · rw [State.joinDeadlineExpired, if_pos ((isOnWire_iff s _).mpr hwire)]
      rfl
    · rw [State.joinDeadlineExpired, if_neg (mt (isOnWire_iff s _).mp hwire)]
    · have hshape := requeueJoin_shape s
      have hctrl : s.requeueJoin.ctrl.firstContact = .stopped ∧ s.requeueJoin.ctrl.joinDeadline = .stopped ∧
          s.requeueJoin.ctrl.deadlineHeld = false ∧ s.requeueJoin.ctrl.contact = false ∧
          s.requeueJoin.ctrl.evicts = 0 ∧ s.requeueJoin.ctrl.presencePending = false := by
        by_cases h : s.ctrl.attempts < 4
        · rw [requeueJoin_of_lt h]
          exact ⟨rfl, rfl, rfl, rfl, rfl, rfl⟩
        · rw [requeueJoin_of_limit (not_lt.mp h), giveUpJoin_eq]
          exact ⟨rfl, rfl, rfl, rfl, rfl, rfl⟩
      obtain ⟨hfirst, hdeadline, hheld, hcontact, hevicts, hpresence⟩ := hctrl
      have hsel : s.requeueJoin.sel = s.sel.without (·.source == .controller) := by rw [hshape]
      refine ⟨by rw [hshape], by rw [hshape]; rfl, by rw [hshape], fun hlimit hrx hslots hending => ?_,
        by rw [hshape]; rfl, hfirst, hdeadline, hheld, hcontact, hevicts, hpresence, fun f hf hsource hoff => ?_,
        fun h => ?_, fun h => ?_⟩
      · rw [requeueJoin_of_limit hlimit, giveUpJoin_eq, choose_of_not_idle (.inl (by simp [hrx]))]
        simp [State.closingCells, hslots, hending, hrx, slotDrive, DriveRecord.empty, List.replicate]
      · rw [hsel]
        exact without_controller_offered hf hsource hoff
      · rw [requeueJoin_of_lt h]
        exact ⟨rfl, rfl, rfl, rfl, rfl⟩
      · rw [requeueJoin_of_limit h, giveUpJoin_eq]
        exact ⟨rfl, rfl, rfl, rfl, rfl⟩

end Sys2Proof.Machine
end

section
/-! SUPPORT. One delivery at the Commit Unit (R36): the heard notice, and the deliveries that apply nothing. -/

namespace Sys2Proof.Machine

/-! ### The heard notice (R28, R77, R79, R87, R91) -/

theorem showsGroup_iff (k : Kind) : showsGroup k = true ↔ k ≠ .genesis ∧ k ≠ .join := by
  cases k <;> decide

/-- A withdrawal of one frame: it leaves the offer where it stands there off the wire. -/
theorem without_beq_spec (x : Selector) (o : Offered) :
    (x.offered = some o ∧ x.onWire = false → x.without (· == o) = { x with offered := none }) ∧
      (¬ (x.offered = some o ∧ x.onWire = false) → x.without (· == o) = x) := by
  refine ⟨fun ⟨ho, hwire⟩ => ?_, fun h => ?_⟩
  · rw [Selector.without_of_some ho hwire, if_pos (beq_self_eq_true o)]
  · cases hx : x.offered with
    | none => exact Selector.without_of_none hx _
    | some f =>
      rcases Bool.eq_false_or_eq_true x.onWire with hwire | hwire
      · exact Selector.without_of_onWire hwire _
      · have hne : f ≠ o := fun hf => h ⟨hf ▸ hx, hwire⟩
        rw [Selector.without_of_some hx hwire, if_neg (by simpa using hne)]

/-- The pending EVICTs once the one that names a station is withdrawn, where it is not on the wire (R79, R136). -/
def State.evictsWithout (s : State) (x : StationId) : StationSet :=
  if s.isOnWire (.evict x) then s.ctrl.evicts else takeFrom s.ctrl.evicts x

theorem inSet_evictsWithout (s : State) (x i : StationId) :
    inSet (s.evictsWithout x) i =
      (inSet s.ctrl.evicts i && !decide (i = x ∧ ¬ (s.sel.offered = some (.evict i) ∧ s.sel.onWire = true))) := by
  unfold State.evictsWithout
  by_cases hi : i = x
  · subst hi
    split
    next h =>
      obtain ⟨hwire, ho⟩ := (isOnWire_iff s _).mp h
      simp [hwire, ho]
    next h =>
      have hnot : ¬ (s.sel.offered = some (.evict i) ∧ s.sel.onWire = true) :=
        fun ⟨ho, hwire⟩ => h ((isOnWire_iff s _).mpr ⟨hwire, ho⟩)
      simp [hnot]
  · have hix : ¬ x = i := Ne.symm hi
    split <;> simp [hi, hix]

/-- The silence timers after a heard notice: the sender's runs again, where the station keeps one for it (R77). -/
def State.silenceHeard (s : State) (x : StationId) : Vector Timer 16 :=
  if x ≠ s.ctrl.id ∧ statusIn s.table.members x ≠ .absent then setEntry s.ctrl.silence x .running else s.ctrl.silence

theorem entryAt_silenceHeard (s : State) (x i : StationId) :
    entryAt (s.silenceHeard x) i =
      if i = x ∧ i ≠ s.ctrl.id ∧ statusIn s.table.members i ≠ .absent then .running else entryAt s.ctrl.silence i := by
  unfold State.silenceHeard
  by_cases hi : i = x
  · subst hi
    split
    next h => rw [entryAt_setEntry_self, if_pos ⟨rfl, h⟩]
    next h => rw [if_neg fun h' => h h'.2]
  · have hnot : ¬ (i = x ∧ i ≠ s.ctrl.id ∧ statusIn s.table.members i ≠ .absent) := fun h => hi h.1
    rw [if_neg hnot]
    split
    · exact entryAt_setEntry_ne _ _ (Ne.symm hi)
    · rfl

theorem withdrawEvict_eq (s : State) (x : StationId) :
    s.withdrawEvict x =
      { s with
        sel := s.sel.without (· == .evict x)
        ctrl := { s.ctrl with evicts := s.evictsWithout x } } := by
  unfold State.withdrawEvict State.evictsWithout
  split
  next h => rw [Selector.without_of_onWire ((isOnWire_iff s _).mp h).1]
  next h =>
    rw [withdraw_of_source fun f hf => by rw [eq_of_beq hf]; nofun]
    rfl

theorem heardActive_eq (s : State) (x : StationId) :
    s.heardActive x =
      { s with
        sel := s.sel.without (· == .evict x)
        ctrl := { s.ctrl with evicts := s.evictsWithout x, silence := s.silenceHeard x } } := by
  unfold State.heardActive State.silenceHeard
  rw [withdrawEvict_eq]
  dsimp only
  split <;> rfl

theorem abandonFounding_eq (s : State) :
    s.abandonFounding =
      { s with
        sel := s.sel.without (· == .genesis), ctrl := { s.ctrl with station := .seeking, control := some .join } } := by
  unfold State.abandonFounding
  rw [withdraw_of_source fun f hf => by rw [eq_of_beq hf]; decide]
  rfl

section
variable {s : State} (x : StationId) (k : Kind)

theorem heard_of_active (h : s.ctrl.station = .active) : s.heard x k = s.heardActive x := by
  simp only [State.heard, h]

theorem heard_of_seeking (h : s.ctrl.station = .seeking) :
    s.heard x k =
      if s.ctrl.control = none ∧ showsGroup k = true then { s with ctrl := { s.ctrl with contact := true } } else s := by
  simp only [State.heard, h, Bool.and_eq_true, decide_eq_true_eq]
  split <;> rfl

theorem heard_of_founding (h : s.ctrl.station = .founding) :
    s.heard x k = if showsGroup k then s.abandonFounding else s := by
  simp only [State.heard, h]

theorem heard_of_deaf (h : s.ctrl.station = .receiving ∨ s.ctrl.station = .synced) : s.heard x k = s := by
  rcases h with h | h <;> simp only [State.heard, h]

end

/-- What a heard notice can change: the selector and the Station Controller, and there neither the number of the station
nor its configured values. -/
theorem heard_shape (s : State) (x : StationId) (k : Kind) :
    ∃ sel ctrl, s.heard x k = { s with sel, ctrl } ∧ ctrl.id = s.ctrl.id := by
  unfold State.heard
  split
  · exact ⟨_, _, heardActive_eq s x, rfl⟩
  · split
    · exact ⟨_, _, rfl, rfl⟩
    · exact ⟨_, _, rfl, rfl⟩
  · split
    · exact ⟨_, _, abandonFounding_eq s, rfl⟩
    · exact ⟨_, _, rfl, rfl⟩
  all_goals exact ⟨_, _, rfl, rfl⟩

theorem stepHeard_of_own {s : State} {d : Delivery} (h : d.own = true) : s.stepHeard d = s := by
  unfold State.stepHeard
  split
  · exact if_pos h
  · rfl

theorem stepHeard_of_none {s : State} {d : Delivery} (h : d.frame = none) : s.stepHeard d = s := by
  simp only [State.stepHeard, h]

theorem stepHeard_of_other {s : State} {d : Delivery} {f : Frame} (hown : d.own = false) (h : d.frame = some f) :
    s.stepHeard d = s.heard f.sender f.content.kind := by
  simp [State.stepHeard, h, hown]

theorem stepHeard_shape (s : State) (d : Delivery) :
    ∃ sel ctrl, s.stepHeard d = { s with sel, ctrl } ∧ ctrl.id = s.ctrl.id := by
  unfold State.stepHeard
  split
  · split
    · exact ⟨_, _, rfl, rfl⟩
    · exact heard_shape s _ _
  · exact ⟨_, _, rfl, rfl⟩

/-! ### A delivery, by what it does -/

/-- The delivery of a frame that is not discarded: the Line Unit hands it over, and the Commit Unit takes it. -/
theorem exec_frameDelivery_of_delivers {slots : Slots} {s : State} {d : Delivery} (h : s.Delivers slots d) :
    exec (.frameDelivery slots) s = .next ((s.takeDelivery slots).deliver d) := by
  obtain ⟨hreset, haborted, hundelivered, hbody, hsilent, rfl⟩ := h
  refine congrArg Host.Outcome.next ((atIdle_of_running hreset _).trans ?_)
  rw [State.frameDelivery, if_neg ?_, if_pos hundelivered, if_neg (by simp [hsilent])]
  simpa [haborted] using hbody

theorem takeDelivery_eq (s : State) (slots : Slots) :
    s.takeDelivery slots =
      { s with line := s.line.handOver slots, commit := { s.commit with drive := .empty } } := rfl

theorem commitsAt_of_not_passed {s : State} {d : Delivery} (h : d.verdict ≠ .passed) : s.commitsAt d = false := by
  simp [State.commitsAt, h]

theorem stepEvaluate_false (s : State) : s.stepEvaluate false = s := rfl

/-- Another station's frame after which this station does not fall out of step: the first four steps are all. -/
theorem deliver_of_other {s : State} {d : Delivery} (hown : d.own = false) (hstep : s.outOfStepBy d = false) :
    s.deliver d = ((s.stepHeard d).stepApply d).stepEvaluate (s.commitsAt d) := by
  simp [State.deliver, hown, hstep, State.stepLeave]

/-- Another station's frame that is applied nowhere leaves its heard notice alone. -/
theorem deliver_of_unapplied {s : State} {d : Delivery} (hown : d.own = false) (hstep : s.outOfStepBy d = false)
    (happly : (s.stepHeard d).stepApply d = s.stepHeard d) (hcommit : s.commitsAt d = false) :
    s.deliver d = s.stepHeard d := by
  rw [deliver_of_other hown hstep, happly, hcommit, stepEvaluate_false]

theorem stepApply_of_rejected {s : State} {d : Delivery} (h : d.verdict = .rejected) : s.stepApply d = s := by
  simp [State.stepApply, h]

theorem stepApply_of_dissented {s : State} {d : Delivery} {agree : Bool} (h : d.verdict = .dissented agree) :
    s.stepApply d = s := by
  simp [State.stepApply, h]

theorem stepApply_of_slotFault {s : State} {d : Delivery} (h : d.verdict = .slotFault) :
    s.stepApply d = if s.table.validity = .complete then s else s.logGap := by
  simp [State.stepApply, h]

theorem stepApply_of_gap {s : State} {d : Delivery} (h : d.verdict = .slotFault) (hvalid : s.table.validity ≠ .complete)
    (hopen : s.transfer.phase ≠ .closed) : s.stepApply d = s.requeueJoin := by
  rw [stepApply_of_slotFault h, if_neg hvalid]
  exact if_neg hopen

theorem stepApply_of_passed {s : State} {d : Delivery} {f : Frame} (h : d.verdict = .passed) (hf : d.frame = some f) :
    s.stepApply d = s.stepPassed d f := by
  simp [State.stepApply, h, hf]

theorem logGap_of_closed {s : State} (h : s.transfer.phase = .closed) : s.logGap = s := if_pos h

theorem takeSegment_of_closed {s : State} (h : s.transfer.phase = .closed) (sender : StationId) (e j : Word16)
    (seg : Segment) : s.takeSegment sender e j seg = s := by
  simp only [State.takeSegment, h]

theorem takeSegment_of_listening {s : State} (h : s.transfer.phase = .listening) (sender : StationId) (e j : Word16)
    (pair : Fin 32) (a b : LockEntry) : s.takeSegment sender e j (.locks pair a b) = s := by
  simp only [State.takeSegment, h]

theorem stepPassed_of_presence {s : State} {d : Delivery} {f : Frame} {e : Word16} (h : f.content = .presence e) :
    s.stepPassed d f = s := by
  simp only [State.stepPassed, h]

theorem stepPassed_of_snapshot {s : State} {d : Delivery} {f : Frame} {target : StationId} {e j : Word16}
    {seg : Segment} (hown : d.own = false) (h : f.content = .snapshot target e j seg) :
    s.stepPassed d f = if target = s.ctrl.id then s.takeSegment f.sender e j seg else s := by
  simp [State.stepPassed, State.acceptSegment, h, hown]

/-! ### Joining again (R96, R97) -/

/-- A JOIN re-queued, or a join given up, from a state in which the joiner has at most heard its group. -/
theorem requeueJoin_joinsAgain {s u : State} (hcommit : u.commit = { s.commit with drive := .empty })
    (htransfer : u.transfer = s.transfer) (hcontact : ∃ b, u.ctrl = { s.ctrl with contact := b })
    (hevents : u.events = s.events)
    (hoffer : ∀ f, s.sel.offered = some f → f.source = .controller → s.sel.onWire = false →
      u.sel.offered = some f ∧ u.sel.onWire = false) : s.JoinsAgain u.requeueJoin := by
  obtain ⟨b, hctrl⟩ := hcontact
  have hattempts : u.ctrl.attempts = s.ctrl.attempts := by rw [hctrl]
  have hshape := requeueJoin_shape u
  refine ⟨by rw [hshape]; rfl, ?_, by rw [hshape, htransfer]; rfl, fun f hf hsource hwire => ?_, fun h => ?_,
    fun h => ?_⟩
  · rw [hshape, hcommit]
    dsimp only
    split <;> rfl
  · obtain ⟨hf', hwire'⟩ := hoffer f hf hsource hwire
    rw [hshape]
    exact without_controller_offered hf' hsource hwire'
  · rw [requeueJoin_of_lt (hattempts ▸ h), hctrl]
    exact ⟨rfl, hevents⟩
  · rw [requeueJoin_of_limit (hattempts ▸ h), giveUpJoin_eq, hctrl, hevents]
    exact ⟨rfl, rfl⟩

/-- At a joiner a heard notice can set the contact mark and nothing else. -/
theorem stepHeard_of_joiner {s : State} (d : Delivery)
    (h : s.ctrl.station = .seeking ∨ s.ctrl.station = .receiving) :
    ∃ b, s.stepHeard d = { s with ctrl := { s.ctrl with contact := b } } := by
  unfold State.stepHeard
  split
  · split
    · exact ⟨s.ctrl.contact, rfl⟩
    · rcases h with h | h
      · rw [heard_of_seeking _ _ h]
        split
        · exact ⟨true, rfl⟩
        · exact ⟨s.ctrl.contact, rfl⟩
      · exact ⟨s.ctrl.contact, heard_of_deaf _ _ (.inl h)⟩
  · exact ⟨s.ctrl.contact, rfl⟩

/-! ### Another station's frame that failed or concerns another (R23, R25, R28, R31, R76) -/

/-- The frames of another station that this station hears and does nothing else about. -/
def State.OnlyHears (s : State) (d : Delivery) : Prop :=
  d.verdict = .rejected ∨ d.verdict = .dissented false ∨ (d.verdict = .dissented true ∧ d.drove.dissent = false) ∨
    (d.verdict = .slotFault ∧ s.table.validity ≠ .complete ∧ s.transfer.phase = .closed) ∨
    (d.verdict = .passed ∧ ∃ f e, d.frame = some f ∧ f.content = .presence e) ∨
    (d.verdict = .passed ∧ ∃ f target e j segment, d.frame = some f ∧ f.content = .snapshot target e j segment ∧
      (target ≠ s.ctrl.id ∨ s.transfer.phase = .closed ∨
        (s.transfer.phase = .listening ∧ ∃ pair a b, segment = .locks pair a b)))

theorem outOfStepBy_of_onlyHears {s : State} {d : Delivery} (hown : d.own = false) (h : s.OnlyHears d) :
    s.outOfStepBy d = false := by
  unfold State.outOfStepBy
  rcases h with h | h | ⟨h, hdrove⟩ | ⟨h, hvalid, -⟩ | ⟨h, f, e, hf, hc⟩ | ⟨h, f, target, e, j, segment, hf, hc, -⟩
  · rw [h]
  · simp [h, hown]
  · simp [h, hown, hdrove]
  · simp [h, hvalid]
  · simp [h, Delivery.kind?, hf, hc, Content.kind]
  · simp [h, Delivery.kind?, hf, hc, Content.kind]

theorem commitsAt_of_onlyHears {s : State} {d : Delivery} (h : s.OnlyHears d) : s.commitsAt d = false := by
  unfold State.commitsAt
  rcases h with h | h | ⟨h, -⟩ | ⟨h, -⟩ | ⟨h, f, e, hf, hc⟩ | ⟨h, f, target, e, j, segment, hf, hc, -⟩ <;> simp [*]

theorem stepApply_of_onlyHears {s : State} {d : Delivery} (hown : d.own = false) (h : s.OnlyHears d) :
    (s.stepHeard d).stepApply d = s.stepHeard d := by
  obtain ⟨sel, ctrl, hshape, hid⟩ := stepHeard_shape s d
  rcases h with h | h | ⟨h, -⟩ | ⟨h, hvalid, hclosed⟩ | ⟨h, f, e, hf, hc⟩ | ⟨h, f, target, e, j, segment, hf, hc, hnot⟩
  · exact stepApply_of_rejected h
  · exact stepApply_of_dissented h
  · exact stepApply_of_dissented h
  · rw [stepApply_of_slotFault h, hshape, if_neg hvalid]
    exact logGap_of_closed hclosed
  · rw [stepApply_of_passed h hf, stepPassed_of_presence hc]
  · rw [stepApply_of_passed h hf, stepPassed_of_snapshot hown hc, hshape]
    dsimp only
    split
    next htarget =>
      rcases hnot with hother | hclosed | ⟨hlisten, pair, a, b, rfl⟩
      · exact absurd (htarget.trans hid) hother
      · exact takeSegment_of_closed (s := { s with sel, ctrl }) hclosed _ _ _ _
      · exact takeSegment_of_listening (s := { s with sel, ctrl }) hlisten _ _ _ _ _ _
    next => rfl

theorem deliver_of_onlyHears {s : State} {d : Delivery} (hown : d.own = false) (h : s.OnlyHears d) :
    s.deliver d = s.stepHeard d :=
  deliver_of_unapplied hown (outOfStepBy_of_onlyHears hown h) (stepApply_of_onlyHears hown h) (commitsAt_of_onlyHears h)

/-- Settles O37: such a frame leaves its heard notice alone, which acts by the station state; a slot fault at an open log
is a log gap. -/
theorem failedFrameIsAppliedNowhere : Obligations.FailedFrameIsAppliedNowhere := by
  refine ⟨fun slots s d hdel hown hcase => ?_, fun slots s d hdel hown hfault hvalid hopen hjoiner => ?_⟩
  · rw [exec_frameDelivery_of_delivers hdel]
    have hdeliver : (s.takeDelivery slots).deliver d = (s.takeDelivery slots).stepHeard d :=
      deliver_of_onlyHears hown hcase
    rw [hdeliver]
    obtain ⟨sel, ctrl, hshape, -⟩ := stepHeard_shape (s.takeDelivery slots) d
    refine ⟨_, rfl, by rw [hshape]; rfl, by rw [hshape]; rfl, by rw [hshape]; rfl, by rw [hshape]; rfl,
      by rw [hshape]; rfl, by rw [hshape]; rfl, fun hnone => ?_, fun f hf => ?_⟩
    · rw [stepHeard_of_none hnone]
      exact ⟨rfl, rfl⟩
    · rw [stepHeard_of_other hown hf]
      refine ⟨fun hactive => ?_, fun hseeking => ?_, fun hfounding => ?_, fun hdeaf => ?_⟩
      · rw [heard_of_active (s := s.takeDelivery slots) _ _ hactive, heardActive_eq]
        exact ⟨rfl, without_beq_spec s.sel (.evict f.sender), entryAt_silenceHeard s f.sender,
          inSet_evictsWithout s f.sender⟩
      · rw [heard_of_seeking (s := s.takeDelivery slots) _ _ hseeking]
        refine ⟨?_, fun hcontrol hshows => ?_, fun hnot => ?_⟩
        · split <;> rfl
        · rw [if_pos ⟨hcontrol, (showsGroup_iff _).mpr hshows⟩]
          rfl
        · rw [if_neg fun h => hnot.elim (· h.1) (· ((showsGroup_iff _).mp h.2))]
          rfl
      · rw [heard_of_founding (s := s.takeDelivery slots) _ _ hfounding]
        refine ⟨fun hshows => ?_, fun hnot => ?_⟩
        · rw [if_pos ((showsGroup_iff _).mpr hshows), abandonFounding_eq]
          exact ⟨rfl, without_beq_spec s.sel .genesis⟩
        · rw [if_neg (mt (showsGroup_iff _).mp hnot)]
          exact ⟨rfl, rfl⟩
      · rw [heard_of_deaf (s := s.takeDelivery slots) _ _ hdeaf]
        exact ⟨rfl, rfl⟩
  · rw [exec_frameDelivery_of_delivers hdel]
    have hstep : (s.takeDelivery slots).outOfStepBy d = false := by
      simp [State.outOfStepBy, hfault, takeDelivery_eq, hvalid]
    obtain ⟨b, hheard⟩ := stepHeard_of_joiner (s := s.takeDelivery slots) d hjoiner
    rw [deliver_of_other hown hstep, commitsAt_of_not_passed (by simp [hfault]), stepEvaluate_false,
      stepApply_of_gap hfault (by rw [hheard]; exact hvalid) (by rw [hheard]; exact hopen), hheard]
    refine ⟨_, rfl, requeueJoin_joinsAgain rfl rfl ⟨b, rfl⟩ rfl fun f hf _ hwire => ⟨hf, hwire⟩, ?_, ?_⟩
    · rw [requeueJoin_shape]
      rfl
    · rw [requeueJoin_shape]
      rfl

end Sys2Proof.Machine
end

section
/-! SUPPORT. The deliveries after which a station counts a failure, falls out of step, or goes on joining. -/

namespace Sys2Proof.Machine

/-! ### The report on an own frame (R33, R135, Table 2-4) -/

theorem deliver_of_own {s : State} {d : Delivery} (hown : d.own = true) :
    s.deliver d =
      (((s.stepApply d).stepEvaluate (s.commitsAt d)).stepReport d (s.reportOf d)).stepLeave (s.outOfStepBy d)
        (s.reportOf d == .retry && ((s.stepApply d).stepEvaluate (s.commitsAt d)).reachesLimit) := by
  simp [State.deliver, hown, stepHeard_of_own hown]

theorem endOffer_retry {s : State} {f : Offered} (h : s.sel.offered = some f) : s.endOffer .retry = s.offerKept f := by
  rw [← endKept_eq_offerKept s h (.inr rfl), State.endOffer, h]

/-- The end DROPPED of an offer: the frame is no longer offered, and its source lets go of it (R135). -/
theorem endDropped_shape (s : State) (f : Offered) :
    ∃ evicts offer, s.endDropped f =
      { s with
        sel := s.sel.removeOffer, ctrl := { s.ctrl with evicts }, intents := { s.intents with offer } } := by
  unfold State.endDropped State.reportEnd
  cases f with
  | evict x => exact ⟨takeFrom s.ctrl.evicts x, s.intents.offer, rfl⟩
  | join | genesis | ready | presence => exact ⟨s.ctrl.evicts, s.intents.offer, rfl⟩
  | segment => exact ⟨s.ctrl.evicts, s.intents.offer, rfl⟩
  | cancel | acquire | release | leave => exact ⟨s.ctrl.evicts, none, rfl⟩

theorem endOffer_dropped {s : State} {f : Offered} (h : s.sel.offered = some f) :
    s.endOffer .dropped = s.endDropped f := by
  rw [State.endOffer, h]

/-- Entry into FAULT gives up all that the end DROPPED of an offer does. -/
theorem enterFault_endDropped (s : State) (f : Offered) (cause : FaultCause) :
    (s.endDropped f).enterFault cause = s.enterFault cause := by
  obtain ⟨evicts, offer, h⟩ := endDropped_shape s f
  rw [h, enterFault_eq, enterFault_eq]
  rfl

/-- The state with a given count of consecutive failures (R33). -/
def State.withFailures (s : State) (n : Nat) : State := { s with commit := { s.commit with failures := n } }

/-- An own frame to be offered again: the count rises; at 16 the station enters FAULT (R33, R34). -/
theorem deliver_of_retry {s : State} {d : Delivery} {f : Offered} (hown : d.own = true)
    (hverdict : d.verdict ≠ .passed) (hreport : s.reportOf d = .retry) (hstep : s.outOfStepBy d = false)
    (hoffered : (s.stepApply d).sel.offered = some f) :
    let t := s.stepApply d
    (t.commit.failures + 1 < 16 → s.deliver d = (t.withFailures (t.commit.failures + 1)).offerKept f) ∧
      (16 ≤ t.commit.failures + 1 → s.deliver d = (t.withFailures 16).enterFault .rejectLimit) := by
  intro t
  rw [deliver_of_own hown, hreport, hstep, commitsAt_of_not_passed hverdict, stepEvaluate_false]
  have hkept (n : Nat) : (t.withFailures n).endOffer .retry = (t.withFailures n).offerKept f := endOffer_retry hoffered
  refine ⟨fun hlt => ?_, fun hge => ?_⟩
  · have hlimit : t.reachesLimit = false := decide_eq_false (not_le.mpr hlt)
    rw [show (s.stepApply d).reachesLimit = false from hlimit, ← hkept]
    show t.reportRetry = _
    rw [State.reportRetry, hlimit]
    rfl
  · have hlimit : t.reachesLimit = true := decide_eq_true hge
    rw [show (s.stepApply d).reachesLimit = true from hlimit]
    show t.reportRetry.enterFault .rejectLimit = _
    rw [State.reportRetry, if_pos hlimit, ← enterFault_endDropped (t.withFailures 16) f]
    exact congrArg (State.enterFault · .rejectLimit) (endOffer_dropped (s := t.withFailures 16) hoffered)

/-- The count of failures and the re-queue of JOIN do not touch each other. -/
theorem requeueJoin_withFailures (s : State) (n : Nat) :
    s.requeueJoin.withFailures n = (s.withFailures n).requeueJoin := by
  by_cases h : s.ctrl.attempts < 4
  · rw [requeueJoin_of_lt h, requeueJoin_of_lt (s := s.withFailures n) h]
    rfl
  · rw [requeueJoin_of_limit (not_lt.mp h), requeueJoin_of_limit (s := s.withFailures n) (not_lt.mp h), giveUpJoin_eq,
      giveUpJoin_eq]
    rfl

theorem kind?_eq_some {d : Delivery} {f : Frame} (h : d.frame = some f) : d.kind? = some f.content.kind := by
  rw [Delivery.kind?, h, Option.map_some]

/-- The own failed frames that are offered again (Table 2-4). -/
def State.OffersAgain (s : State) (d : Delivery) (k : Kind) : Prop :=
  d.verdict = .rejected ∨ (d.verdict = .dissented true ∧ epochBearing k = true) ∨
    (∃ agree, d.verdict = .dissented agree ∧ (k = .join ∨ k = .snapshot)) ∨
    (d.verdict = .slotFault ∧ s.table.validity ≠ .complete)

theorem verdict_of_offersAgain {s : State} {d : Delivery} {k : Kind} (h : s.OffersAgain d k) : d.verdict ≠ .passed := by
  rcases h with h | ⟨h, -⟩ | ⟨agree, h, -⟩ | ⟨h, -⟩ <;> simp [h]

theorem reportOf_of_offersAgain {s : State} {d : Delivery} {f : Frame} (hf : d.frame = some f)
    (h : s.OffersAgain d f.content.kind) : s.reportOf d = .retry := by
  unfold State.reportOf
  rw [kind?_eq_some hf]
  rcases h with h | ⟨h, hk⟩ | ⟨agree, h, hk⟩ | ⟨h, hvalid⟩
  · rw [h]
  · rw [h]
    cases hkind : f.content.kind <;> simp_all [epochBearing]
  · rw [h]
    rcases hk with hk | hk <;> rw [hk] <;> rfl
  · rw [h]
    exact if_neg hvalid

theorem outOfStepBy_of_offersAgain {s : State} {d : Delivery} {f : Frame} (hown : d.own = true) (hf : d.frame = some f)
    (h : s.OffersAgain d f.content.kind) : s.outOfStepBy d = false := by
  unfold State.outOfStepBy
  rw [kind?_eq_some hf, hown]
  rcases h with h | ⟨h, hk⟩ | ⟨agree, h, hk⟩ | ⟨h, hvalid⟩
  · rw [h]
  · rw [h]
    rfl
  · rw [h]
    rcases hk with hk | hk <;> rw [hk] <;> cases agree <;> rfl
  · rw [h]
    simpa using hvalid

/-- Settles O38: the frame is counted and offered again, after the log gap where the log is open; a dissented GENESIS is
dropped. -/
theorem failedOwnFrameIsCounted : Obligations.FailedOwnFrameIsCounted := by
  intro slots s d fr f hdel hown hframe hoffered after
  rw [exec_frameDelivery_of_delivers hdel]
  let t : State := s.takeDelivery slots
  show (_ → (_ → Host.Outcome.next (t.deliver d) = _) ∧ (_ → Host.Outcome.next (t.deliver d) = _)) ∧
    (_ → _ → _ → _ → _ → ∃ u, _ ∧ _ ∧ (_ → Host.Outcome.next (t.deliver d) = _) ∧
      (_ → Host.Outcome.next (t.deliver d) = _)) ∧
    (∀ _, _ → _ → _ → Host.Outcome.next (t.deliver d) = _)
  refine ⟨fun hcase => ?_, fun hfault hvalid hopen hwire hjoiner => ?_, fun agree hverdict hgenesis hf => ?_⟩
  · have hagain : t.OffersAgain d fr.content.kind := by
      rcases hcase with h | h | h | ⟨h, hvalid, -⟩
      · exact .inl h
      · exact .inr (.inl h)
      · exact .inr (.inr (.inl h))
      · exact .inr (.inr (.inr ⟨h, hvalid⟩))
    have happly : t.stepApply d = t := by
      rcases hcase with h | ⟨h, -⟩ | ⟨agree, h, -⟩ | ⟨h, hvalid, hclosed⟩
      · exact stepApply_of_rejected h
      · exact stepApply_of_dissented h
      · exact stepApply_of_dissented h
      · rw [stepApply_of_slotFault h, if_neg (show t.table.validity ≠ _ from hvalid)]
        exact logGap_of_closed hclosed
    obtain ⟨hlt, hge⟩ := deliver_of_retry hown (verdict_of_offersAgain hagain) (reportOf_of_offersAgain hframe hagain)
      (outOfStepBy_of_offersAgain hown hframe hagain) (by rw [happly]; exact hoffered)
    rw [happly] at hlt hge
    exact ⟨fun h => congrArg Host.Outcome.next (hlt h), fun h => congrArg Host.Outcome.next (hge h)⟩
  · have hagain : t.OffersAgain d fr.content.kind := .inr (.inr (.inr ⟨hfault, hvalid⟩))
    have happly : t.stepApply d = t.requeueJoin := stepApply_of_gap hfault hvalid hopen
    have hsel (x : State) (hx : x.sel = s.sel) : x.requeueJoin.sel = s.sel := by
      rw [requeueJoin_shape, hx]
      exact Selector.without_of_onWire hwire _
    have hfailures : t.requeueJoin.commit.failures = s.commit.failures := by rw [requeueJoin_shape]; rfl
    obtain ⟨hlt, hge⟩ := deliver_of_retry (f := f) hown (verdict_of_offersAgain hagain)
      (reportOf_of_offersAgain hframe hagain) (outOfStepBy_of_offersAgain hown hframe hagain)
      (by rw [happly, hsel t rfl]; exact hoffered)
    rw [happly, hfailures] at hlt hge
    have hcounted (n : Nat) : t.requeueJoin.withFailures n = (after n).requeueJoin := requeueJoin_withFailures t n
    refine ⟨(after (min (s.commit.failures + 1) 16)).requeueJoin,
      requeueJoin_joinsAgain rfl rfl ⟨s.ctrl.contact, rfl⟩ rfl fun g hg _ hoff => ⟨hg, hoff⟩, ?_, fun h => ?_, fun h => ?_⟩
    · have hsame := hsel (after (min (s.commit.failures + 1) 16)) rfl
      rw [requeueJoin_shape] at hsame ⊢
      dsimp only at hsame ⊢
      rw [hsame]
    · rw [hlt h, hcounted, min_eq_left h.le]
    · rw [hge h, hcounted, min_eq_right h]
  · subst hf
    have hkind : d.kind? = some .genesis := by rw [kind?_eq_some hframe, hgenesis]; rfl
    have hreport : t.reportOf d = .dropped := by simp [State.reportOf, hverdict, hkind]
    have hstep : t.outOfStepBy d = false := by
      simp [State.outOfStepBy, hverdict, hown, hkind, show epochBearing .genesis = false from rfl]
    have hdropped : t.endOffer .dropped =
        { t with sel := { s.sel with offered := none, onWire := false } } := endOffer_dropped (s := t) hoffered
    rw [deliver_of_own hown, hreport, hstep, commitsAt_of_not_passed (by simp [hverdict]), stepEvaluate_false,
      stepApply_of_dissented hverdict]
    refine congrArg Host.Outcome.next ?_
    show t.reportDropped d = _
    rw [State.reportDropped, if_pos ⟨hkind, by simp [hverdict]⟩, hdropped, abandonFounding_eq,
      Selector.without_of_none rfl]
    rfl

end Sys2Proof.Machine
end

section
/-! SUPPORT. Committed frames at a joiner, the departure out of step, and another station's GENESIS. -/

namespace Sys2Proof.Machine

/-! ### A committed frame that makes a change -/

section
variable {s : State} {d : Delivery} {f : Frame} {c : Change}

theorem stepPassed_of_change (hc : f.content.change? = some c) : s.stepPassed d f = s.commitChange f.sender c := by
  obtain ⟨sender, content⟩ := f
  cases content <;> simp_all [Content.change?, State.stepPassed]

theorem stepPassed_of_genesis (hc : f.content = .genesis) : s.stepPassed d f = s.commitGenesis d.own := by
  simp only [State.stepPassed, hc]

theorem kind_ne_genesis_of_change (hc : f.content.change? = some c) : f.content.kind ≠ .genesis := by
  intro h
  cases hcontent : f.content <;> simp_all [Content.change?, Content.kind]

theorem commitsAt_of_change (hverdict : d.verdict = .passed) (hf : d.frame = some f) (hc : f.content.change? = some c) :
    s.commitsAt d = (s.table.validity == .complete) := by
  obtain ⟨sender, content⟩ := f
  cases content <;> simp_all [State.commitsAt, Content.change?]

theorem outOfStepBy_of_change (hverdict : d.verdict = .passed) (hf : d.frame = some f)
    (hc : f.content.change? = some c) : s.outOfStepBy d = false := by
  simp [State.outOfStepBy, hverdict, kind?_eq_some hf, kind_ne_genesis_of_change hc]

/-- A committed frame of another station's at a station without a COMPLETE table goes to the joiner side. -/
theorem deliver_of_logged (hown : d.own = false) (hverdict : d.verdict = .passed) (hf : d.frame = some f)
    (hc : f.content.change? = some c) (hvalid : s.table.validity ≠ .complete) :
    s.deliver d = (s.stepHeard d).logCommit { sender := f.sender, change := c } := by
  obtain ⟨sel, ctrl, hshape, -⟩ := stepHeard_shape s d
  have hvalid' : (s.stepHeard d).table.validity ≠ .complete := by rw [hshape]; exact hvalid
  rw [deliver_of_other hown (outOfStepBy_of_change hverdict hf hc), commitsAt_of_change hverdict hf hc,
    show (s.table.validity == .complete) = false by simpa using hvalid, stepEvaluate_false,
    stepApply_of_passed hverdict hf, stepPassed_of_change hc, State.commitChange, if_neg hvalid']

end

/-! ### The catch-up log (R110 to R114, R119) -/

theorem logCommit_of_closed {s : State} (h : s.transfer.phase = .closed) (r : LogRecord) : s.logCommit r = s := if_pos h

theorem logCommit_of_room {s : State} {r : LogRecord} (hopen : s.transfer.phase ≠ .closed)
    (hown : r.change ≠ .evict s.ctrl.id) (hroom : s.transfer.log.length < 32) : s.logCommit r = s.appendRecord r := by
  rw [State.logCommit, if_neg hopen, if_neg hown]
  exact if_neg (not_le.mpr hroom)

/-- The own eviction and the overflow of the log both make a joiner join again (R100, R112). -/
theorem logCommit_of_end {s : State} {r : LogRecord} (hopen : s.transfer.phase ≠ .closed)
    (hjoiner : s.ctrl.station = .seeking ∨ s.ctrl.station = .receiving)
    (hend : r.change = .evict s.ctrl.id ∨ 32 ≤ s.transfer.log.length) : s.logCommit r = s.requeueJoin := by
  rw [State.logCommit, if_neg hopen]
  split
  · rcases hjoiner with h | h <;> simp only [State.ownEviction, h]
  · exact if_pos (hend.resolve_left ‹_›)

/-- The record changes the donor of the reception under way (R119). -/
def State.ChangesDonor (s : State) (r : LogRecord) : Prop :=
  ∃ cur, s.transfer.phase = .loading ∧ s.transfer.current = some cur ∧
    ((r.change = .leave ∧ r.sender = cur.donor) ∨ r.change = .evict cur.donor ∨
      (r.change = .join ∧ r.sender = cur.donor) ∨ (r.change = .ready ∧ r.sender < cur.donor))

theorem changesDonor_iff (donor : StationId) (r : LogRecord) :
    changesDonor donor r = true ↔
      (r.change = .leave ∧ r.sender = donor) ∨ r.change = .evict donor ∨ (r.change = .join ∧ r.sender = donor) ∨
        (r.change = .ready ∧ r.sender < donor) := by
  unfold changesDonor
  cases r.change <;> simp

theorem appendRecord_of_changesDonor {s : State} {r : LogRecord} (h : s.ChangesDonor r) :
    s.appendRecord r =
      { s with
        table := .discarded
        transfer := { s.transfer with log := s.transfer.log ++ [r], phase := .listening, current := none } } := by
  obtain ⟨cur, hphase, hcur, hchange⟩ := h
  unfold State.appendRecord
  dsimp only
  rw [hphase, hcur]
  exact if_pos ((changesDonor_iff _ _).mpr hchange)

theorem appendRecord_of_kept {s : State} {r : LogRecord} (h : ¬ s.ChangesDonor r) :
    s.appendRecord r = { s with transfer := { s.transfer with log := s.transfer.log ++ [r] } } := by
  unfold State.appendRecord
  dsimp only
  split
  next cur hphase hcur =>
    exact if_neg fun hchange => h ⟨cur, hphase, hcur, (changesDonor_iff _ _).mp hchange⟩
  next => rfl

theorem endOffer_passed {s : State} {f : Offered} (h : s.sel.offered = some f) : s.endOffer .passed = s.endPassed f := by
  rw [State.endOffer, h]

theorem passedAtController_of_not_active {s : State} (h : s.ctrl.station ≠ .active) : s.passedAtController = s :=
  if_neg h

theorem reportOf_of_passed {s : State} {d : Delivery} (h : d.verdict = .passed) : s.reportOf d = .passed := by
  simp only [State.reportOf, h]

/-- An own frame that passed, and after which the station stays in step: the first four steps, and the report. -/
theorem deliver_of_passed {s : State} {d : Delivery} (hown : d.own = true) (hverdict : d.verdict = .passed) :
    s.deliver d = ((s.stepApply d).stepEvaluate (s.commitsAt d)).reportPassed := by
  have hstep : s.outOfStepBy d = false := by simp [State.outOfStepBy, hverdict, hown]
  rw [deliver_of_own hown, reportOf_of_passed hverdict, hstep]
  rfl

/-- Settles O40: the record by the phase and the room of the log; the own JOIN opens it. -/
theorem joinerLogsTheCommit : Obligations.JoinerLogsTheCommit := by
  refine ⟨fun slots s d f c hdel hown hf hc hverdict hvalid => ?_,
    fun slots s d f hdel hown hf hc hverdict hseeking hvalid hclosed hoffered => ?_⟩
  · intro changes
    rw [exec_frameDelivery_of_delivers hdel,
      deliver_of_logged (s := s.takeDelivery slots) hown hverdict hf hc hvalid]
    let r : LogRecord := { sender := f.sender, change := c }
    obtain ⟨sel, ctrl, hshape, hid⟩ := stepHeard_shape (s.takeDelivery slots) d
    let u : State := { s.takeDelivery slots with sel, ctrl }
    refine ⟨_, rfl, fun hclosed => ?_, fun hopen hother hroom => ?_, fun hopen hjoiner hend => ?_⟩
    · rw [hshape, logCommit_of_closed (s := u) hclosed]
      exact ⟨rfl, rfl, rfl⟩
    · rw [hshape, logCommit_of_room (s := u) hopen (fun h => hother (h.trans (congrArg Change.evict hid))) hroom]
      have hchanges : u.ChangesDonor r ↔ changes := Iff.rfl
      by_cases h : changes
      · rw [appendRecord_of_changesDonor (hchanges.mpr h)]
        exact ⟨rfl, rfl, rfl, fun _ => ⟨rfl, rfl, rfl⟩, fun hnot => absurd h hnot⟩
      · rw [appendRecord_of_kept (mt hchanges.mp h)]
        exact ⟨rfl, rfl, rfl, fun h' => absurd h' h, fun _ => ⟨rfl, rfl, rfl⟩⟩
    · obtain ⟨b, hheard⟩ := stepHeard_of_joiner (s := s.takeDelivery slots) d hjoiner
      let v : State := { s.takeDelivery slots with ctrl := { s.ctrl with contact := b } }
      have hlog : ((s.takeDelivery slots).stepHeard d).logCommit r = v.requeueJoin :=
        (congrArg (State.logCommit · r) hheard).trans (logCommit_of_end (s := v) (r := r) hopen hjoiner hend)
      rw [hlog]
      obtain ⟨hvalidity, hcommit, htransfer, -, hagain, hgivenUp⟩ :=
        requeueJoin_joinsAgain (s := s) (u := v) rfl rfl ⟨b, rfl⟩ rfl fun f hf _ hwire => ⟨hf, hwire⟩
      refine ⟨congrArg CommitUnit.epoch hcommit, hvalidity, congrArg TransferUnit.phase htransfer,
        congrArg TransferUnit.log htransfer, congrArg TransferUnit.discards htransfer, fun h => ?_, fun h => ?_⟩
      · obtain ⟨hctrl, hevents⟩ := hagain h
        rw [hctrl]
        exact ⟨rfl, rfl, rfl, hevents⟩
      · obtain ⟨hctrl, hevents⟩ := hgivenUp h
        rw [hctrl]
        exact ⟨rfl, rfl, rfl, hevents⟩
  · have hchange : f.content.change? = some .join := by rw [hc]; rfl
    let t : State := s.takeDelivery slots
    have happly : t.stepApply d = t := by
      rw [stepApply_of_passed hverdict hf, stepPassed_of_change hchange, State.commitChange,
        if_neg (show t.table.validity ≠ _ from hvalid)]
      exact logCommit_of_closed (s := t) hclosed _
    rw [exec_frameDelivery_of_delivers hdel, deliver_of_passed hown hverdict, happly,
      commitsAt_of_change hverdict hf hchange,
      show ((s.takeDelivery slots).table.validity == .complete) = false by simpa [takeDelivery_eq] using hvalid,
      stepEvaluate_false]
    refine congrArg Host.Outcome.next ?_
    have hpassed : t.reportPassed = (t.withFailures 0).endPassed .join := endOffer_passed (s := t.withFailures 0) hoffered
    refine hpassed.trans ?_
    refine passedAtController_of_not_active ?_
    show s.ctrl.station ≠ .active
    rw [hseeking]
    decide

/-! ### Falling out of step (R37, Table 2-5) -/

/-- What falling out of step leaves, from a state that differs from `s` in what it gives up only. -/
theorem fallOutOfStep_spec {s u : State} (hcommit : u.commit = { s.commit with drive := .empty })
    (hctrl : ∃ evicts silence, u.ctrl = { s.ctrl with evicts, silence })
    (hrecords : u.intents.records = s.intents.records) (hevents : u.events = s.events)
    (hsel : u.sel.onWire = false ∨ u.sel.offered = none) :
    let t := u.fallOutOfStep
    t.commit = { epoch := none, failures := 0, lastFault := s.commit.lastFault, drive := .empty } ∧
      t.table.validity = .none ∧ t.transfer = .initial ∧ t.intents = .initial ∧ t.sel.offered = none ∧
      t.sel.yieldFlag = false ∧ t.sel.yieldWait = .stopped ∧
      t.ctrl =
        { Controller.initial s.ctrl.id with
          station := .seeking, attempts := 1, control := some .join, contact := t.ctrl.contact,
          p := s.ctrl.p, k := s.ctrl.k, jmul := s.ctrl.jmul } ∧
      t.events =
        ((allLocks.filter (fun l => (s.intent l).state ≠ .idle)).foldl (fun q l => q.place (.lock l .lost)) s.events).place
          (.station .outOfStep) := by
  obtain ⟨evicts, silence, hctrl⟩ := hctrl
  have hlosses : u.lossEvents =
      (allLocks.filter (fun l => (s.intent l).state ≠ .idle)).foldl (fun q l => q.place (.lock l .lost)) s.events := by
    unfold State.lossEvents State.intent
    rw [hrecords, hevents]
  have hoffered : u.sel.withoutAll.offered = none := by
    rcases Bool.eq_false_or_eq_true u.sel.onWire with hwire | hwire
    · rw [Selector.withoutAll_of_onWire hwire]
      exact hsel.resolve_left (by simp [hwire])
    · rw [Selector.withoutAll_of_not_onWire hwire]
  intro t
  rw [show t = _ from fallOutOfStep_eq u, hcommit, hctrl, hlosses]
  exact ⟨rfl, rfl, rfl, rfl, hoffered, rfl, rfl, rfl, rfl⟩

theorem endOffer_dropped_shape (s : State) :
    ∃ evicts offer sel, s.endOffer .dropped =
      { s with sel, ctrl := { s.ctrl with evicts }, intents := { s.intents with offer } } ∧ sel.offered = none := by
  cases hf : s.sel.offered with
  | none => exact ⟨s.ctrl.evicts, s.intents.offer, s.sel, by rw [State.endOffer, hf], hf⟩
  | some f =>
    obtain ⟨evicts, offer, h⟩ := endDropped_shape s f
    exact ⟨evicts, offer, _, (endOffer_dropped hf).trans h, rfl⟩

/-- In a group a heard notice can change the silence timers, the pending EVICTs, and an EVICT on offer off the wire. -/
theorem stepHeard_of_member {s : State} (d : Delivery) (h : s.ctrl.station = .synced ∨ s.ctrl.station = .active) :
    ∃ sel evicts silence, s.stepHeard d = { s with sel, ctrl := { s.ctrl with evicts, silence } } ∧
      sel.onWire = s.sel.onWire := by
  unfold State.stepHeard
  split
  next f _ =>
    split
    · exact ⟨s.sel, s.ctrl.evicts, s.ctrl.silence, rfl, rfl⟩
    · rcases h with h | h
      · exact ⟨s.sel, s.ctrl.evicts, s.ctrl.silence, heard_of_deaf _ _ (.inr h), rfl⟩
      · exact ⟨_, _, _, (heard_of_active _ _ h).trans (heardActive_eq s _), Selector.without_onWire _ _⟩
  next => exact ⟨s.sel, s.ctrl.evicts, s.ctrl.silence, rfl, rfl⟩

/-- The four causes of falling out of step (Table 2-5). -/
def State.FallsOut (s : State) (d : Delivery) : Prop :=
  d.verdict = .slotFault ∨
    (d.verdict = .dissented false ∧ d.own = true ∧ ∃ f, d.frame = some f ∧ epochBearing f.content.kind = true) ∨
    (d.verdict = .dissented true ∧ d.own = false ∧ s.ctrl.station = .active ∧ d.drove.dissent = true) ∨
    (d.verdict = .passed ∧ d.own = false ∧ s.ctrl.station = .synced ∧ ∃ f, d.frame = some f ∧ f.content = .genesis)

theorem outOfStepBy_of_fallsOut {s : State} {d : Delivery} (hvalid : s.table.validity = .complete) (h : s.FallsOut d) :
    s.outOfStepBy d = true := by
  unfold State.outOfStepBy
  rcases h with h | ⟨h, hown, f, hf, hk⟩ | ⟨h, hown, hactive, hdrove⟩ | ⟨h, hown, hsynced, f, hf, hc⟩
  · simp [h, hvalid]
  · simp [h, hown, kind?_eq_some hf, hk]
  · simp [h, hown, hactive, hdrove]
  · simp [h, hown, hsynced, kind?_eq_some hf, hc, Content.kind]

theorem commitsAt_of_fallsOut {s : State} {d : Delivery} (h : s.FallsOut d) : s.commitsAt d = false := by
  rcases h with h | ⟨h, -⟩ | ⟨h, -⟩ | ⟨h, hown, -, f, hf, hc⟩
  · exact commitsAt_of_not_passed (by simp [h])
  · exact commitsAt_of_not_passed (by simp [h])
  · exact commitsAt_of_not_passed (by simp [h])
  · simp [State.commitsAt, hf, hc, hown]

/-- Before a station falls out of step its delivery applies nothing. -/
theorem stepApply_of_fallsOut {s : State} {d : Delivery} (hvalid : s.table.validity = .complete) (h : s.FallsOut d) :
    s.stepApply d = s := by
  rcases h with h | ⟨h, -⟩ | ⟨h, -⟩ | ⟨h, hown, hsynced, f, hf, hc⟩
  · rw [stepApply_of_slotFault h, if_pos hvalid]
  · exact stepApply_of_dissented h
  · exact stepApply_of_dissented h
  · rw [stepApply_of_passed h hf, stepPassed_of_genesis hc, hown]
    simp [State.commitGenesis, State.otherGenesis, hsynced]

theorem deliver_of_fallsOut {s : State} {d : Delivery} (hvalid : s.table.validity = .complete)
    (hmember : s.ctrl.station = .synced ∨ s.ctrl.station = .active) (h : s.FallsOut d) :
    s.deliver d = if d.own then (s.endOffer .dropped).fallOutOfStep else (s.stepHeard d).fallOutOfStep := by
  have hcommits := commitsAt_of_fallsOut h
  have hstep := outOfStepBy_of_fallsOut hvalid h
  obtain ⟨sel, evicts, silence, hshape, -⟩ := stepHeard_of_member d hmember
  have happly : (s.stepHeard d).stepApply d = s.stepHeard d :=
    stepApply_of_fallsOut (by rw [hshape]; exact hvalid) (by rw [hshape]; exact h)
  rcases Bool.eq_false_or_eq_true d.own with hown | hown
  · have hreport : s.reportOf d = .dropped := by
      unfold State.reportOf
      rcases h with h | ⟨h, -, f, hf, hk⟩ | ⟨-, hother, -⟩ | ⟨-, hother, -⟩
      · simp [h, hvalid]
      · rw [h, kind?_eq_some hf]
        cases hkind : f.content.kind <;> simp_all [epochBearing]
      · simp [hown] at hother
      · simp [hown] at hother
    have hnoGenesis : ¬ (d.kind? = some .genesis ∧ d.verdict ≠ .slotFault) := by
      rintro ⟨hkind, hverdict⟩
      rcases h with h | ⟨-, -, f, hf, hk⟩ | ⟨-, hother, -⟩ | ⟨-, hother, -⟩
      · exact hverdict h
      · rw [kind?_eq_some hf, Option.some.injEq] at hkind
        rw [hkind] at hk
        exact Bool.false_ne_true hk
      · simp [hown] at hother
      · simp [hown] at hother
    rw [stepHeard_of_own hown] at happly
    rw [deliver_of_own hown, hreport, hcommits, happly, hstep, stepEvaluate_false, if_pos hown]
    show (s.reportDropped d).fallOutOfStep = _
    rw [State.reportDropped, if_neg hnoGenesis]
  · rw [if_neg (by simp [hown])]
    simp only [State.deliver, hown, hcommits, hstep, happly, stepEvaluate_false, State.stepLeave]
    rfl

/-! ### Another station's GENESIS (R30, R92, Table 5-2) -/

theorem deliver_of_otherGenesis {s : State} {d : Delivery} {f : Frame} (hown : d.own = false) (hf : d.frame = some f)
    (hc : f.content = .genesis) (hverdict : d.verdict = .passed) (hjoining : s.ctrl.station ≠ .synced)
    (hactive : s.ctrl.station ≠ .active) : s.deliver d = s.otherGenesis := by
  have hstep : s.outOfStepBy d = false := by simp [State.outOfStepBy, hverdict, hjoining]
  have hcommits : s.commitsAt d = false := by simp [State.commitsAt, hf, hc, hown]
  have hkind : f.content.kind = .genesis := by rw [hc]; rfl
  have hheard : s.stepHeard d = s := by
    rw [stepHeard_of_other hown hf, hkind]
    unfold State.heard
    split
    · exact absurd ‹_› hactive
    · simp [showsGroup, epochBearing]
    · rfl
    all_goals rfl
  rw [deliver_of_other hown hstep, hcommits, stepEvaluate_false, hheard, stepApply_of_passed hverdict hf,
    stepPassed_of_genesis hc, hown]
  rfl

/-- Settles O41: each cause leads to step 6 with nothing applied; another's GENESIS by the station state. -/
theorem fallingOutOfStep : Obligations.FallingOutOfStep := by
  refine ⟨fun slots s d hdel hmember hvalid hwire hcause => ?_, fun slots s d f hdel hown hf hc hverdict => ?_⟩
  · rw [exec_frameDelivery_of_delivers hdel,
      deliver_of_fallsOut (s := s.takeDelivery slots) hvalid hmember hcause]
    refine ⟨_, rfl, ?_⟩
    split
    next hown =>
      obtain ⟨evicts, offer, sel, hshape, hoffered⟩ := endOffer_dropped_shape (s.takeDelivery slots)
      rw [hshape]
      exact fallOutOfStep_spec rfl ⟨evicts, s.ctrl.silence, rfl⟩ rfl rfl (.inr hoffered)
    next hown =>
      obtain ⟨sel, evicts, silence, hshape, hsel⟩ := stepHeard_of_member (s := s.takeDelivery slots) d hmember
      rw [hshape]
      exact fallOutOfStep_spec rfl ⟨evicts, silence, rfl⟩ rfl rfl
        (.inl (hsel.trans (Bool.eq_false_of_not_eq_true fun h => hown (hwire h))))
  · intro taken
    rw [exec_frameDelivery_of_delivers hdel]
    have hdeliver (h : s.ctrl.station = .seeking ∨ s.ctrl.station = .receiving ∨ s.ctrl.station = .founding) :
        (s.takeDelivery slots).deliver d = taken.otherGenesis := by
      refine deliver_of_otherGenesis hown hf hc hverdict ?_ ?_ <;>
        (show s.ctrl.station ≠ _; rcases h with h | h | h <;> rw [h] <;> decide)
    refine ⟨fun hseeking hcontrol => ?_, fun hjoining => ?_, fun hfounding => ?_⟩
    · rw [hdeliver (.inl hseeking)]
      simp [State.otherGenesis, taken, hseeking, hcontrol]
    · have hrejoin : taken.otherGenesis = taken.rejoinNewGroup := by
        rcases hjoining with ⟨hseeking, hcontrol⟩ | hreceiving
        · simp [State.otherGenesis, taken, hseeking, hcontrol]
        · simp [State.otherGenesis, taken, hreceiving]
      rw [hdeliver (hjoining.elim (fun h => .inl h.1) fun h => .inr (.inl h)), hrejoin, State.rejoinNewGroup, closeLog_eq]
      refine ⟨_, rfl, rfl, fun h => ?_, fun h => ?_⟩
      · show (if s.transfer.phase = .loading then TableEngine.discarded else s.table).validity = .none
        rw [if_pos h]
        rfl
      · exact if_neg h
    · have habandon : taken.otherGenesis = taken.abandonFounding := by simp [State.otherGenesis, taken, hfounding]
      rw [hdeliver (.inr (.inr hfounding)), habandon, abandonFounding_eq]
      have hsel : s.sel.without (· == .genesis) =
          if s.sel.offered = some .genesis ∧ s.sel.onWire = false then { s.sel with offered := none } else s.sel := by
        split
        next h => exact (without_beq_spec s.sel .genesis).1 h
        next h => exact (without_beq_spec s.sel .genesis).2 h
      rw [← hsel]

end Sys2Proof.Machine
end

section
/-! SUPPORT. The outcome notices of one application (R48), taken one after the other: what they can take off offer, and
that they look at the intents, the events and the offers of the Intent Unit alone. -/

namespace Sys2Proof.Machine

/-! ### Withdrawals, one after the other (R136) -/

/-- The selector has lost its offer at most: the frame passes a test and was off the wire. -/
def Selector.Dropped (P : Offered → Prop) (x y : Selector) : Prop :=
  y = x ∨ (x.onWire = false ∧ ∃ f, x.offered = some f ∧ P f ∧ y = { x with offered := none })

section
variable {P Q : Offered → Prop} {x y z : Selector}

theorem Selector.Dropped.refl (P : Offered → Prop) (x : Selector) : x.Dropped P x := .inl rfl

theorem Selector.Dropped.trans (hxy : x.Dropped P y) (hyz : y.Dropped P z) : x.Dropped P z := by
  rcases hxy with rfl | ⟨hwire, f, hf, hP, rfl⟩
  · exact hyz
  · rcases hyz with rfl | ⟨-, g, hg, -⟩
    · exact .inr ⟨hwire, f, hf, hP, rfl⟩
    · exact nomatch hg

theorem Selector.Dropped.mono (h : x.Dropped P y) (hPQ : ∀ f, P f → Q f) : x.Dropped Q y :=
  h.imp id fun ⟨hwire, f, hf, hP, hy⟩ => ⟨hwire, f, hf, hPQ f hP, hy⟩

theorem Selector.Dropped.onWire (h : x.Dropped P y) : y.onWire = x.onWire := by
  rcases h with rfl | ⟨-, -, -, -, rfl⟩ <;> rfl

theorem Selector.Dropped.eq_of_onWire (h : x.Dropped P y) (hwire : x.onWire = true) : y = x :=
  h.resolve_right fun h => by simp [hwire] at h

theorem Selector.Dropped.eq_of_not {f : Offered} (h : x.Dropped P y) (hf : x.offered = some f) (hP : ¬ P f) : y = x :=
  h.resolve_right fun ⟨_, _, hg, hPg, _⟩ => hP (Option.some.inj (hf.symm.trans hg) ▸ hPg)

theorem Selector.Dropped.none (h : x.Dropped P y) (hnone : x.offered = .none) : y.offered = .none := by
  rcases h with rfl | ⟨-, -, -, -, rfl⟩
  · exact hnone
  · rfl

theorem Selector.dropped_without (x : Selector) {p : Offered → Bool} (hp : ∀ f, p f = true → P f) :
    x.Dropped P (x.without p) := by
  cases hf : x.offered with
  | none => exact .inl (Selector.without_of_none hf p)
  | some f =>
    rcases Bool.eq_false_or_eq_true x.onWire with hwire | hwire
    · exact .inl (Selector.without_of_onWire hwire p)
    · rw [Selector.without_of_some hf hwire]
      split
      next h => exact .inr ⟨hwire, f, hf, hp f h, rfl⟩
      next => exact .inl rfl

end

/-! ### What a notice takes off offer -/

/-- A frame of the Intent Unit (Table 7-1). -/
def Offered.OfIntents (f : Offered) : Prop := f.source = .intents

theorem endIntent_sel (s : State) (l : LockId) (o : LockOutcome) :
    s.sel.Dropped Offered.OfIntents (s.endIntent l o).sel := by
  rw [endIntent_eq]
  exact Selector.dropped_without _ fun f h => Offered.source_of_lock (eq_of_beq h)

theorem holdIntent_sel (s : State) (l : LockId) (m : Mode) (token : Word16) (overtaken : Bool) :
    (s.holdIntent l m token overtaken).sel = s.sel := by
  unfold State.holdIntent
  dsimp only
  split <;> rfl

theorem grantNotice_sel (s : State) (l : LockId) (m : Mode) (token : Word16) :
    s.sel.Dropped Offered.OfIntents (s.grantNotice l m token).sel := by
  by_cases hcancel : (s.intent l).state = .cancelling
  · rw [grantNotice_of_cancelling hcancel, holdIntent_sel, withdraw_eq]
    exact Selector.dropped_without _ fun f h => by rw [eq_of_beq h]; exact rfl
  · by_cases hrequest : (s.intent l).state = .requesting
    · rw [grantNotice_of_requesting hrequest, holdIntent_sel]
      exact .refl _ _
    · rw [grantNotice_of_other hcancel hrequest, holdIntent_sel]
      exact .refl _ _

/-- What an own outcome other than GRANTED comes to: the end of the intent, or a move of it. -/
theorem ownOutcome_cases (s : State) (l : LockId) (o : RequestOutcome) :
    (∃ m token, o = .granted m token ∧ s.ownOutcome l o = s.grantNotice l m token) ∨
      (∃ ev, s.ownOutcome l o = s.endIntent l ev) ∨ (∃ r, s.ownOutcome l o = s.setIntent l r) ∨
      ∃ r ev, s.ownOutcome l o = (s.setIntent l r).raiseLock l ev := by
  cases o with
  | granted m token => exact .inl ⟨m, token, rfl, rfl⟩
  | queued m n =>
    by_cases h : (s.intent l).state = .requesting
    · cases hmark : (s.intent l).mark with
      | none => exact .inr (.inr (.inr ⟨_, _, queuedNotice_of_unmarked h hmark m n⟩))
      | some cause => exact .inr (.inr (.inl ⟨_, queuedNotice_of_marked h hmark m n⟩))
    · exact .inr (.inl ⟨_, queuedNotice_of_other h m n⟩)
  | denied => exact .inr (.inl ⟨_, deniedNotice_eq s l⟩)
  | released => exact .inr (.inl ⟨_, releasedNotice_eq s l⟩)
  | cancelled =>
    refine .inr (.inl ?_)
    show ∃ ev, s.cancelledNotice l = s.endIntent l ev
    unfold State.cancelledNotice
    split
    · exact ⟨_, rfl⟩
    · exact ⟨_, rfl⟩
  | duplicate | releaseNoop | cancelVoid => exact .inr (.inl ⟨_, rfl⟩)

theorem takeNotice_sel (s : State) (n : LockNotice) : s.sel.Dropped Offered.OfIntents (s.takeNotice n).sel := by
  cases n with
  | own l o =>
    show s.sel.Dropped Offered.OfIntents (s.ownOutcome l o).sel
    rcases ownOutcome_cases s l o with ⟨m, token, -, h⟩ | ⟨ev, h⟩ | ⟨r, h⟩ | ⟨r, ev, h⟩ <;> rw [h]
    · exact grantNotice_sel s l m token
    · exact endIntent_sel s l ev
    · exact .refl _ _
    · exact .refl _ _
  | grant l m token => exact grantNotice_sel s l m token
  | selfPurged =>
    show s.sel.Dropped Offered.OfIntents s.voidIntents.sel
    rw [voidIntents_eq]
    exact Selector.dropped_without _ fun f h => eq_of_beq h

theorem takeNotices_sel (s : State) (ns : List LockNotice) :
    s.sel.Dropped Offered.OfIntents (s.takeNotices ns).sel := by
  induction ns generalizing s with
  | nil => exact .refl _ _
  | cons n ns ih => exact (takeNotice_sel s n).trans (ih _)

/-! ### What a notice looks at -/

/-- Two states that the Intent Unit cannot tell apart: its own state, the events, and the offers of its frames. -/
structure State.SameIntents (s t : State) : Prop where
  intents : t.intents = s.intents
  events  : t.events = s.events
  free    : t.free = s.free
  onWire  : t.sel.onWire = s.sel.onWire
  offered : ∀ f, f.source = .intents → (t.sel.offered = some f ↔ s.sel.offered = some f)

section
variable {s t : State}

theorem State.SameIntents.intent (h : s.SameIntents t) (l : LockId) : t.intent l = s.intent l := by
  rw [State.intent, h.intents, State.intent]

theorem State.SameIntents.acquireOnWire (h : s.SameIntents t) (l : LockId) :
    t.acquireOnWire l = s.acquireOnWire l := by
  unfold State.acquireOnWire
  rw [h.intents]

/-- A withdrawal, by whether the frame on offer is taken. -/
theorem withdraw_by_taken (s : State) {p : Offered → Bool} (hp : ∀ f, p f = true → f.source = .intents) :
    (s.sel.without p).offered =
        (if s.sel.onWire = false ∧ ∃ f, s.sel.offered = some f ∧ p f = true then none else s.sel.offered) ∧
      s.offerWithout p =
        (if s.sel.onWire = false ∧ ∃ f, s.sel.offered = some f ∧ p f = true then none else s.intents.offer) := by
  cases hf : s.sel.offered with
  | none => simp [Selector.without_of_none hf, State.offerWithout, hf]
  | some f =>
    rcases Bool.eq_false_or_eq_true s.sel.onWire with hwire | hwire
    · simp [Selector.without_of_onWire hwire, offerWithout_of_onWire hwire, hwire, hf]
    · by_cases hpf : p f = true
      · simp [Selector.without_of_some hf hwire, State.offerWithout, hf, hwire, hpf, hp f hpf]
      · simp [Selector.without_of_some hf hwire, State.offerWithout, hf, hwire, hpf]

theorem State.SameIntents.withdraw (h : s.SameIntents t) {p : Offered → Bool}
    (hp : ∀ f, p f = true → f.source = .intents) : (s.withdraw p).SameIntents (t.withdraw p) := by
  obtain ⟨hsel, hoffer⟩ := withdraw_by_taken s hp
  obtain ⟨hsel', hoffer'⟩ := withdraw_by_taken t hp
  have htaken : (t.sel.onWire = false ∧ ∃ f, t.sel.offered = some f ∧ p f = true) ↔
      (s.sel.onWire = false ∧ ∃ f, s.sel.offered = some f ∧ p f = true) := by
    rw [h.onWire]
    exact and_congr_right fun _ => exists_congr fun f => and_congr_left fun hf => h.offered f (hp f hf)
  rw [withdraw_eq, withdraw_eq]
  refine ⟨?_, h.events, h.free, ?_, fun f hf => ?_⟩
  · show { t.intents with offer := t.offerWithout p } = { s.intents with offer := s.offerWithout p }
    rw [hoffer, hoffer', h.intents]
    simp only [htaken]
  · show (t.sel.without p).onWire = (s.sel.without p).onWire
    rw [Selector.without_onWire, Selector.without_onWire, h.onWire]
  · show (t.sel.without p).offered = some f ↔ (s.sel.without p).offered = some f
    rw [hsel, hsel']
    simp only [htaken]
    split
    · exact Iff.rfl
    · exact h.offered f hf

theorem State.SameIntents.setIntents (h : s.SameIntents t) (x : IntentUnit) :
    (s.setIntents x).SameIntents (t.setIntents x) := ⟨rfl, h.events, h.free, h.onWire, h.offered⟩

theorem State.SameIntents.setIntent (h : s.SameIntents t) (l : LockId) (r : IntentRecord) :
    (s.setIntent l r).SameIntents (t.setIntent l r) := by
  unfold State.setIntent
  rw [h.intents]
  exact h.setIntents _

theorem State.SameIntents.setWaitTimer (h : s.SameIntents t) (l : LockId) (timer : Timer) :
    (s.setWaitTimer l timer).SameIntents (t.setWaitTimer l timer) := by
  unfold State.setWaitTimer
  rw [h.intents]
  exact h.setIntents _

theorem State.SameIntents.raiseLock (h : s.SameIntents t) (l : LockId) (o : LockOutcome) :
    (s.raiseLock l o).SameIntents (t.raiseLock l o) :=
  ⟨h.intents, congrArg (·.place (.lock l o)) h.events, h.free, h.onWire, h.offered⟩

theorem State.SameIntents.nextFree (h : s.SameIntents t) : s.nextFree.SameIntents t.nextFree :=
  ⟨h.intents, h.events, congrArg (· + 1) h.free, h.onWire, h.offered⟩

theorem State.SameIntents.endIntent (h : s.SameIntents t) (l : LockId) (o : LockOutcome) :
    (s.endIntent l o).SameIntents (t.endIntent l o) := by
  have hdrop : (s.dropFrames l).SameIntents (t.dropFrames l) := by
    unfold State.dropFrames
    rw [h.intents]
    exact (h.setIntents _).withdraw fun f hf => Offered.source_of_lock (eq_of_beq hf)
  exact ((hdrop.setIntent l .idle).setWaitTimer l .stopped).raiseLock l o

theorem State.SameIntents.holdIntent (h : s.SameIntents t) (l : LockId) (m : Mode) (token : Word16) (o : Bool) :
    (s.holdIntent l m token o).SameIntents (t.holdIntent l m token o) := by
  unfold State.holdIntent
  dsimp only
  rw [h.intent l, h.free]
  refine State.SameIntents.raiseLock (.setWaitTimer (.setIntent ?_ _ _) _ _) _ _
  split
  · exact h
  · exact h.nextFree

theorem State.SameIntents.grantNotice (h : s.SameIntents t) (l : LockId) (m : Mode) (token : Word16) :
    (s.grantNotice l m token).SameIntents (t.grantNotice l m token) := by
  have hstate := congrArg IntentRecord.state (h.intent l)
  by_cases hcancel : (s.intent l).state = .cancelling
  · rw [grantNotice_of_cancelling hcancel, grantNotice_of_cancelling (hstate.trans hcancel)]
    exact (h.withdraw fun f hf => by rw [eq_of_beq hf]; exact rfl).holdIntent l m token true
  · by_cases hrequest : (s.intent l).state = .requesting
    · rw [grantNotice_of_requesting hrequest, grantNotice_of_requesting (hstate.trans hrequest), h.intent l,
        h.acquireOnWire l]
      exact h.holdIntent l m token _
    · rw [grantNotice_of_other hcancel hrequest,
        grantNotice_of_other (hstate ▸ hcancel) (hstate ▸ hrequest)]
      exact h.holdIntent l m token _

theorem State.SameIntents.ownOutcome (h : s.SameIntents t) (l : LockId) (o : RequestOutcome) :
    (s.ownOutcome l o).SameIntents (t.ownOutcome l o) := by
  cases o with
  | granted m token => exact h.grantNotice l m token
  | queued m n =>
    show (s.queuedNotice l m n).SameIntents (t.queuedNotice l m n)
    unfold State.queuedNotice State.strayNotice
    rw [h.intent l]
    dsimp only
    split
    · exact (h.setIntent l _).raiseLock l _
    · exact h.setIntent l _
    · exact h.endIntent l _
  | denied =>
    show (s.deniedNotice l).SameIntents (t.deniedNotice l)
    rw [deniedNotice_eq, deniedNotice_eq, h.intent l]
    exact h.endIntent l _
  | released =>
    show (s.releasedNotice l).SameIntents (t.releasedNotice l)
    rw [releasedNotice_eq, releasedNotice_eq, h.intent l]
    exact h.endIntent l _
  | cancelled =>
    show (s.cancelledNotice l).SameIntents (t.cancelledNotice l)
    unfold State.cancelledNotice State.strayNotice
    rw [h.intent l]
    split
    · exact h.endIntent l _
    · exact h.endIntent l _
  | duplicate | releaseNoop | cancelVoid => exact h.endIntent l _

theorem State.SameIntents.voidIntents (h : s.SameIntents t) : s.voidIntents.SameIntents t.voidIntents := by
  obtain ⟨-, -, -, honWire, hoffered⟩ := h.withdraw (p := (·.source == .intents)) fun f hf => eq_of_beq hf
  rw [withdraw_eq, withdraw_eq] at honWire hoffered
  rw [voidIntents_eq, voidIntents_eq]
  refine ⟨rfl, ?_, h.free, honWire, hoffered⟩
  show t.lossEvents = s.lossEvents
  unfold State.lossEvents State.intent
  rw [h.intents, h.events]

theorem State.SameIntents.takeNotices (h : s.SameIntents t) (ns : List LockNotice) :
    (ns.foldl State.takeNotice s).SameIntents (ns.foldl State.takeNotice t) := by
  induction ns generalizing s t with
  | nil => exact h
  | cons n ns ih =>
    refine ih ?_
    cases n with
    | own l o => exact h.ownOutcome l o
    | grant l m token => exact h.grantNotice l m token
    | selfPurged => exact h.voidIntents

end

/-! ### The request queue under notices -/

/-- A grant of the grant rule leaves the request queue (R148, R149, R151). -/
theorem grantNotice_queue (s : State) (l : LockId) (m : Mode) (token : Word16) :
    (s.grantNotice l m token).intents.queue = s.intents.queue := by
  have hhold (u : State) (o : Bool) : (u.holdIntent l m token o).intents.queue = u.intents.queue := by
    obtain ⟨-, -, -, -, hqueue, -⟩ := holdIntent_spec u l m token o
    exact hqueue
  by_cases hcancel : (s.intent l).state = .cancelling
  · rw [grantNotice_of_cancelling hcancel, hhold, withdraw_eq]
  · by_cases hrequest : (s.intent l).state = .requesting
    · rw [grantNotice_of_requesting hrequest, hhold]
    · rw [grantNotice_of_other hcancel hrequest, hhold]

/-- The offer record while a frame is on the wire: no notice but SELF_PURGED changes it (R136). -/
theorem takeNotice_offer {s : State} (hwire : s.sel.onWire = true) {n : LockNotice} (hn : n ≠ .selfPurged) :
    (s.takeNotice n).intents.offer = s.intents.offer := by
  have hhold (l : LockId) (m : Mode) (token : Word16) (o : Bool) :
      (s.holdIntent l m token o).intents.offer = s.intents.offer := by
    unfold State.holdIntent
    dsimp only
    split <;> rfl
  have hgrant (l : LockId) (m : Mode) (token : Word16) :
      (s.grantNotice l m token).intents.offer = s.intents.offer := by
    unfold State.grantNotice
    rw [withdraw_of_onWire hwire]
    dsimp only
    split <;> exact hhold _ _ _ _
  cases n with
  | own l o =>
    show (s.ownOutcome l o).intents.offer = _
    rcases ownOutcome_cases s l o with ⟨m, token, -, h⟩ | ⟨ev, h⟩ | ⟨r, h⟩ | ⟨r, ev, h⟩ <;> rw [h]
    · exact hgrant l m token
    · rw [endIntent_eq]
      exact offerWithout_of_onWire hwire _
    · rfl
    · rfl
  | grant l m token => exact hgrant l m token
  | selfPurged => exact absurd rfl hn

/-- The lock that a notice concerns. -/
def LockNotice.lock? : LockNotice → Option LockId
  | .own l _ | .grant l _ _ => some l
  | .selfPurged => none

theorem takeNotice_queue (s : State) {n : LockNotice} {l : LockId} (hn : n.lock? = some l) :
    (s.takeNotice n).intents.queue = s.intents.queue ∨ (s.takeNotice n).intents.queue = s.intents.queueWithout l := by
  cases n with
  | own k o =>
    cases hn
    show (s.ownOutcome l o).intents.queue = _ ∨ (s.ownOutcome l o).intents.queue = _
    rcases ownOutcome_cases s l o with ⟨m, token, -, h⟩ | ⟨ev, h⟩ | ⟨r, h⟩ | ⟨r, ev, h⟩ <;> rw [h]
    · exact .inl (grantNotice_queue s l m token)
    · rw [endIntent_eq]
      exact .inr rfl
    · exact .inl rfl
    · exact .inl rfl
  | grant k m token => exact .inl (grantNotice_queue s k m token)
  | selfPurged => exact nomatch hn

theorem queueWithout_nil {x : IntentUnit} (h : x.queue = []) (l : LockId) : x.queueWithout l = [] := by
  simp only [IntentUnit.queueWithout, h]

theorem queueWithout_cons {x : IntentUnit} {e : QueueEntry} {rest : List QueueEntry} (h : x.queue = e :: rest)
    (l : LockId) :
    x.queueWithout l =
      if e.lock? != some l || x.entryOnWire e then e :: rest.filter (fun e => e.lock? != some l)
      else rest.filter (fun e => e.lock? != some l) := by
  simp only [IntentUnit.queueWithout, h]

/-- A queue without entries of the lock stays as it is. -/
theorem queueWithout_of_apart {x : IntentUnit} {l : LockId} (h : ∀ e ∈ x.queue, (e.lock? != some l) = true) :
    x.queueWithout l = x.queue := by
  cases hq : x.queue with
  | nil => exact queueWithout_nil hq l
  | cons e rest =>
    rw [hq] at h
    rw [queueWithout_cons hq, h e List.mem_cons_self, Bool.true_or, if_pos rfl,
      List.filter_eq_self.mpr fun a ha => h a (List.mem_cons_of_mem e ha)]

/-- Dropping the entries of a lock twice is dropping them once. -/
theorem queueWithout_idem (x : IntentUnit) (l : LockId) :
    { x with queue := x.queueWithout l }.queueWithout l = x.queueWithout l := by
  cases hq : x.queue with
  | nil => rw [queueWithout_nil hq, queueWithout_nil rfl]
  | cons e rest =>
    by_cases hkept : (e.lock? != some l || x.entryOnWire e) = true
    · have hfirst : x.queueWithout l = e :: rest.filter (fun e => e.lock? != some l) := by
        rw [queueWithout_cons hq, if_pos hkept]
      have hkept' : (e.lock? != some l || { x with queue := x.queueWithout l }.entryOnWire e) = true := hkept
      rw [queueWithout_cons (x := { x with queue := x.queueWithout l }) hfirst, if_pos hkept', List.filter_filter,
        hfirst]
      simp
    · have hfirst : x.queueWithout l = rest.filter (fun e => e.lock? != some l) := by
        rw [queueWithout_cons hq, if_neg hkept]
      refine queueWithout_of_apart (x := { x with queue := x.queueWithout l }) fun a ha => ?_
      exact (List.mem_filter.mp (hfirst ▸ ha : a ∈ rest.filter _)).2

/-- The notices of one lock while a frame is on the wire: the offers stay, and the queue loses entries of the lock at
most. -/
theorem takeNotices_of_onWire {s : State} (hwire : s.sel.onWire = true) {ns : List LockNotice} {l : LockId}
    (hns : ∀ n ∈ ns, n.lock? = some l) :
    (s.takeNotices ns).intents.offer = s.intents.offer ∧
      ((s.takeNotices ns).intents.queue = s.intents.queue ∨
        (s.takeNotices ns).intents.queue = s.intents.queueWithout l) := by
  induction ns generalizing s with
  | nil => exact ⟨rfl, .inl rfl⟩
  | cons n ns ih =>
    have hn : n.lock? = some l := hns n List.mem_cons_self
    have hpurge : n ≠ .selfPurged := fun h => by rw [h] at hn; exact nomatch hn
    have hsel : (s.takeNotice n).sel = s.sel := (takeNotice_sel s n).eq_of_onWire hwire
    obtain ⟨hoffer, hqueue⟩ := ih (s := s.takeNotice n) (by rw [hsel]; exact hwire)
      fun m hm => hns m (List.mem_cons_of_mem n hm)
    have hfirst := takeNotice_offer hwire hpurge
    refine ⟨hoffer.trans hfirst, ?_⟩
    have hwithout (q : List QueueEntry) (hq : (s.takeNotice n).intents.queue = q) :
        (s.takeNotice n).intents.queueWithout l = { s.intents with queue := q }.queueWithout l := by
      unfold IntentUnit.queueWithout IntentUnit.entryOnWire
      rw [hq, hfirst]
    rcases takeNotice_queue s hn with h | h
    · rcases hqueue with h' | h'
      · exact .inl (h'.trans h)
      · exact .inr (h'.trans (hwithout _ h))
    · rcases hqueue with h' | h'
      · exact .inr (h'.trans h)
      · exact .inr (h'.trans ((hwithout _ h).trans (queueWithout_idem _ _)))

theorem takeNotices_of_grants {s : State} {ns : List LockNotice} (hwire : s.sel.onWire = true)
    (hns : ∀ n ∈ ns, ∃ l m token, n = .grant l m token) :
    (s.takeNotices ns).intents.offer = s.intents.offer ∧ (s.takeNotices ns).intents.queue = s.intents.queue := by
  induction ns generalizing s with
  | nil => exact ⟨rfl, rfl⟩
  | cons n ns ih =>
    obtain ⟨l, m, token, rfl⟩ := hns n List.mem_cons_self
    have hsel : (s.takeNotice (.grant l m token)).sel = s.sel := (takeNotice_sel s _).eq_of_onWire hwire
    obtain ⟨hoffer, hqueue⟩ := ih (s := s.takeNotice (.grant l m token)) (by rw [hsel]; exact hwire)
      fun n hn => hns n (List.mem_cons_of_mem _ hn)
    exact ⟨hoffer.trans (takeNotice_offer hwire (by simp)), hqueue.trans (grantNotice_queue s l m token)⟩

end Sys2Proof.Machine
end

section
/-! SUPPORT. The application of a committed frame at a station with a COMPLETE table (R26, R47, R68), the donor's
evaluation after it (R103), and the end PASSED of an own frame (R130, R135). -/

namespace Sys2Proof.Machine

/-- A frame of the Station Controller (Table 7-1). -/
def Offered.OfController (f : Offered) : Prop := f.source = .controller

/-- A frame of the Transfer Unit (Table 7-1). -/
def Offered.OfTransfer (f : Offered) : Prop := f.source = .transfer

/-! ### The heard notice, as the others see it -/

theorem stepHeard_sel (s : State) (d : Delivery) : s.sel.Dropped Offered.OfController (s.stepHeard d).sel := by
  have hevict (x : StationId) : s.sel.Dropped Offered.OfController (s.sel.without (· == .evict x)) :=
    Selector.dropped_without _ fun f h => by rw [eq_of_beq h]; exact rfl
  have hgenesis : s.sel.Dropped Offered.OfController (s.sel.without (· == .genesis)) :=
    Selector.dropped_without _ fun f h => by rw [eq_of_beq h]; exact rfl
  unfold State.stepHeard
  split
  · split
    · exact .refl _ _
    · unfold State.heard
      split
      · rw [heardActive_eq]
        exact hevict _
      · split <;> exact .refl _ _
      · split
        · rw [abandonFounding_eq]
          exact hgenesis
        · exact .refl _ _
      all_goals exact .refl _ _
  · exact .refl _ _

theorem Selector.Dropped.sameIntents {x y : Selector} (h : x.Dropped Offered.OfController y) {f : Offered}
    (hf : f.source = .intents) : y.offered = some f ↔ x.offered = some f := by
  rcases h with rfl | ⟨-, g, hg, hP, rfl⟩
  · exact Iff.rfl
  · refine ⟨fun h => (nomatch h), fun h => ?_⟩
    have hfg : f = g := Option.some.inj (h.symm.trans hg)
    rw [hfg, show g.source = .controller from hP] at hf
    exact nomatch hf

/-! ### One application, step by step -/

/-- What the Table Engine makes of a committed frame at this station (R47, R68). -/
def State.applied (s : State) (sender : StationId) (c : Change) : Application :=
  applyChange s.ctrl.id s.epochAfter sender c s.table

/-- The state once the lock notices of a commit have been taken. -/
def State.noticed (s : State) (sender : StationId) (c : Change) : State :=
  (s.setTable (s.applied sender c).table).takeNotices (s.applied sender c).notices

theorem applyCommit_of_none {s : State} {sender : StationId} {c : Change} (h : (s.applied sender c).member = none) :
    s.applyCommit sender c = (s.noticed sender c).countCommit := by
  show (match (s.applied sender c).member with
    | some n => (s.noticed sender c).memberNotice n
    | none => s.noticed sender c).countCommit = _
  rw [h]

theorem applyCommit_of_some {s : State} {sender : StationId} {c : Change} {n : MemberNotice}
    (h : (s.applied sender c).member = some n) :
    s.applyCommit sender c = ((s.noticed sender c).memberNotice n).countCommit := by
  show (match (s.applied sender c).member with
    | some n => (s.noticed sender c).memberNotice n
    | none => s.noticed sender c).countCommit = _
  rw [h]

theorem noticed_notified (s : State) (sender : StationId) (c : Change) :
    Notified (s.setTable (s.applied sender c).table) (s.noticed sender c) := notified_takeNotices _

theorem noticed_sel (s : State) (sender : StationId) (c : Change) :
    s.sel.Dropped Offered.OfIntents (s.noticed sender c).sel :=
  takeNotices_sel (s.setTable (s.applied sender c).table) _

theorem epochAfter_eq {s : State} {e : Word16} (h : s.commit.epoch = some e) : s.epochAfter = e + 1 := by
  rw [State.epochAfter, State.epochValue, h]
  rfl

theorem member_validity (self : StationId) (e : Word16) (x : StationId) (c : Change) (t : TableEngine) :
    (applyChange self e x c t).table.validity = t.validity := by
  have hrequest (l : LockId) (f : LockEntry → Applied) : (applyRequest self x t l f).table.validity = t.validity := by
    unfold applyRequest applyEntry
    split <;> rfl
  cases c with
  | evict y =>
    show (applyEvict self t y).table.validity = _
    unfold applyEvict
    split <;> rfl
  | acquire l m y => exact hrequest l _
  | release l => exact hrequest l _
  | cancel l => exact hrequest l _
  | _ => rfl

/-- The table that a commit leaves does not depend on the station that applies it (R47). -/
theorem applyChange_table_self (self other : StationId) (e : Word16) (x : StationId) (c : Change) (t : TableEngine) :
    (applyChange self e x c t).table = (applyChange other e x c t).table := by
  have hrequest (l : LockId) (f : LockEntry → Applied) :
      (applyRequest self x t l f).table = (applyRequest other x t l f).table := by
    unfold applyRequest applyEntry
    split <;> rfl
  cases c with
  | evict y =>
    show (applyEvict self t y).table = (applyEvict other t y).table
    unfold applyEvict
    split <;> rfl
  | acquire l m y => exact hrequest l _
  | release l => exact hrequest l _
  | cancel l => exact hrequest l _
  | _ => rfl

/-- The lock of a request frame. -/
def Change.lock? : Change → Option LockId
  | .acquire l _ _ | .release l | .cancel l => some l
  | .join | .leave | .ready | .evict _ => none

theorem applyChange_of_request {c : Change} {l : LockId} (h : Change.lock? c = some l) (self : StationId) (e : Word16)
    (x : StationId) (t : TableEngine) :
    (applyChange self e x c t).member = none ∧
      ∀ n ∈ (applyChange self e x c t).notices, n.lock? = some l := by
  have hgrants (gs : List Grant) : ∀ n ∈ grantNotices self l gs, n.lock? = some l := by
    intro n hn
    obtain ⟨g, -, rfl⟩ := List.mem_map.mp hn
    rfl
  have hrequest (f : LockEntry → Applied) :
      (applyRequest self x t l f).member = none ∧ ∀ n ∈ (applyRequest self x t l f).notices, n.lock? = some l := by
    unfold applyRequest applyEntry
    split
    · refine ⟨rfl, fun n hn => ?_⟩
      rcases List.mem_append.mp hn with hn | hn
      · split at hn
        · rw [List.mem_singleton.mp hn]
          rfl
        · exact absurd hn List.not_mem_nil
      · exact hgrants _ n hn
    · exact ⟨rfl, fun n hn => absurd hn List.not_mem_nil⟩
  cases c with
  | acquire k m y =>
    cases h
    exact hrequest _
  | release k =>
    cases h
    exact hrequest _
  | cancel k =>
    cases h
    exact hrequest _
  | _ => exact nomatch h

/-- The station that a membership frame concerns (Table 4-1). -/
def Change.subject (c : Change) (sender : StationId) : StationId :=
  match c with
  | .evict x => x
  | _ => sender

/-- The kind of a membership frame. -/
def Change.memberKind : Change → Kind
  | .join => .join
  | .leave => .leave
  | .ready => .ready
  | _ => .evict

/-- The membership notice of a membership frame: the entry of the station concerned before and after it (R74). -/
theorem applyChange_of_member {c : Change} (h : Change.lock? c = none) (self : StationId) (e : Word16) (x : StationId)
    (t : TableEngine) :
    (applyChange self e x c t).member = some
      { kind := c.memberKind
        station := c.subject x
        before := statusIn t.members (c.subject x)
        after := statusIn (applyChange self e x c t).table.members (c.subject x)
        changed := decide (entryAt (applyChange self e x c t).table.members (c.subject x) ≠
          entryAt t.members (c.subject x)) } := by
  have hmember (k : Kind) (y : StationId) (purge : Bool) (entry : MemberEntry) :
      (applyMember self t k y purge entry).member = some
        { kind := k, station := y, before := statusIn t.members y
          after := statusIn (applyMember self t k y purge entry).table.members y
          changed := decide (entryAt (applyMember self t k y purge entry).table.members y ≠ entryAt t.members y) } := by
    have hentry : entryAt (applyMember self t k y purge entry).table.members y = entry := entryAt_setEntry_self _ _ _
    have hnotice : (applyMember self t k y purge entry).member = some
        { kind := k, station := y, before := statusIn t.members y, after := entry.status,
          changed := decide (entry ≠ entryAt t.members y) } := rfl
    rw [hnotice]
    simp only [statusIn, hentry]
  cases c with
  | join => exact hmember _ _ _ _
  | leave => exact hmember _ _ _ _
  | ready => exact hmember _ _ _ _
  | evict y =>
    show (applyEvict self t y).member = some
      { kind := .evict, station := y, before := statusIn t.members y,
        after := statusIn (applyEvict self t y).table.members y,
        changed := decide (entryAt (applyEvict self t y).table.members y ≠ entryAt t.members y) }
    by_cases hy : statusIn t.members y = .absent
    · rw [applyEvict_of_absent hy]
      exact hmember _ _ _ _
    · rw [applyEvict_of_present hy]
      exact hmember _ _ _ _
  | _ => exact nomatch h

/-! ### The donor's evaluation (R103) -/

theorem evaluateDonor_shape (s : State) :
    ∃ sel transfer, s.evaluateDonor = { s with sel, transfer } ∧ s.sel.Dropped Offered.OfTransfer sel := by
  have htest (u : State) : ∃ sel transfer, u.testTransfer = { u with sel, transfer } ∧
      u.sel.Dropped Offered.OfTransfer sel := by
    unfold State.testTransfer
    split
    · split
      · unfold State.abandonTransfer
        rw [withdraw_of_source fun f hf => by rw [eq_of_beq hf]; decide]
        exact ⟨_, _, rfl, Selector.dropped_without _ fun f hf => eq_of_beq hf⟩
      · exact ⟨_, _, rfl, .refl _ _⟩
    · exact ⟨_, _, rfl, .refl _ _⟩
  have hstart (u : State) : ∃ transfer, u.startTransfer = { u with transfer } := by
    unfold State.startTransfer
    split
    · split <;> exact ⟨_, rfl⟩
    · exact ⟨_, rfl⟩
  obtain ⟨sel, transfer, htest, hsel⟩ := htest s.pruneServed
  obtain ⟨transfer', hstart⟩ := hstart s.pruneServed.testTransfer
  refine ⟨sel, transfer', ?_, hsel⟩
  rw [State.evaluateDonor, hstart, htest]
  rfl

theorem stepEvaluate_shape (s : State) (committed : Bool) :
    ∃ sel transfer, s.stepEvaluate committed = { s with sel, transfer } ∧ s.sel.Dropped Offered.OfTransfer sel := by
  unfold State.stepEvaluate
  split
  · exact evaluateDonor_shape s
  · exact ⟨_, _, rfl, .refl _ _⟩

/-! ### A committed frame at a station with a COMPLETE table -/

section
variable {s : State} {d : Delivery} {f : Frame} {c : Change}

/-- A committed frame is applied after its heard notice; the evaluation follows, and at the sender the report. -/
theorem deliver_of_applied (hverdict : d.verdict = .passed) (hf : d.frame = some f)
    (hc : f.content.change? = some c) (hvalid : s.table.validity = .complete) :
    s.deliver d =
      (if d.own then (((s.stepHeard d).applyCommit f.sender c).stepEvaluate true).reportPassed
        else ((s.stepHeard d).applyCommit f.sender c).stepEvaluate true) := by
  obtain ⟨sel, ctrl, hshape, -⟩ := stepHeard_shape s d
  have hvalid' : (s.stepHeard d).table.validity = .complete := by rw [hshape]; exact hvalid
  have happly : (s.stepHeard d).stepApply d = (s.stepHeard d).applyCommit f.sender c := by
    rw [stepApply_of_passed hverdict hf, stepPassed_of_change hc, State.commitChange, if_pos hvalid']
  have hcommits : s.commitsAt d = true := by
    rw [commitsAt_of_change hverdict hf hc, hvalid]
    rfl
  rcases Bool.eq_false_or_eq_true d.own with hown | hown
  · have hheard := stepHeard_of_own (s := s) hown
    rw [if_pos hown, deliver_of_passed hown hverdict, hcommits, ← happly, hheard]
  · rw [if_neg (by simp [hown]), deliver_of_other hown (outOfStepBy_of_change hverdict hf hc), hcommits, happly]

end

/-! ### The end PASSED of an own frame (R75, R76, R130, R135, R153) -/

/-- The Intent Unit once a frame of its own has passed: the offer record empty, and its entry or its outstanding CANCEL
gone (R153). -/
def IntentUnit.afterPassed (x : IntentUnit) (f : Offered) : IntentUnit :=
  match f with
  | .acquire l m y => { x with offer := none, queue := x.queue.erase (.acquire l m y) }
  | .release l => { x with offer := none, queue := x.queue.erase (.release l) }
  | .leave => { x with offer := none, queue := x.queue.erase .leave }
  | .cancel l =>
      { x with offer := none, records := setEntry x.records l { entryAt x.records l with outstanding := none } }
  | _ => x

/-- The selector once its frame has passed (R130, R135). -/
def Selector.afterPassed (x : Selector) (f : Offered) : Selector :=
  { x with offered := none, onWire := false, yieldFlag := x.yieldFlag || requestClass f.kind }

/-- The Station Controller once a frame of its own has passed, before the PASSED report itself counts (R78, R89, R90). -/
def Controller.afterPassed (x : Controller) (f : Offered) : Controller :=
  match f with
  | .join => { x with control := none, contact := false, firstContact := .running, joinDeadline := .running }
  | .genesis => { x with control := if x.control = some .genesis then none else x.control }
  | .ready => { x with deadlineHeld := false, control := if x.control = some .ready then none else x.control }
  | .evict y => { x with evicts := takeFrom x.evicts y }
  | .presence => { x with presencePending := false }
  | _ => x

/-- The Station Controller once the PASSED report has come: while ACTIVE the presence timer runs anew and no PRESENCE is
pending (R75, R76). -/
def Controller.afterReport (x : Controller) : Controller :=
  if x.station = .active then { x with presence := .running, presencePending := false } else x

theorem passedAtController_eq {s : State} (hwire : s.sel.onWire = false) (hnone : s.sel.offered = none) :
    s.passedAtController = { s with ctrl := s.ctrl.afterReport } := by
  unfold State.passedAtController Controller.afterReport
  split
  next h =>
    have hoff : (s.setCtrl { s.ctrl with presence := .running }).isOnWire .presence = false := by
      simp [State.isOnWire, hwire]
    have hkept : (s.setCtrl { s.ctrl with presence := .running }).withdraw (· == .presence) =
        s.setCtrl { s.ctrl with presence := .running } :=
      withdraw_of_none (s := s.setCtrl { s.ctrl with presence := .running }) hnone _
    dsimp only
    rw [if_neg (by simp [hoff]), hkept]
    rfl
  next => rfl

theorem endPassed_eq (s : State) (f : Offered) :
    s.endPassed f =
      { s with
        sel := s.sel.afterPassed f
        ctrl := (s.ctrl.afterPassed f).afterReport
        transfer := if f = .join then { s.transfer with phase := .listening, log := [], discards := 0, current := none }
          else s.transfer
        intents := s.intents.afterPassed f } := by
  have hreport : s.endPassed f = State.passedAtController
      { s with
        sel := s.sel.afterPassed f
        ctrl := s.ctrl.afterPassed f
        transfer := if f = .join then { s.transfer with phase := .listening, log := [], discards := 0, current := none }
          else s.transfer
        intents := s.intents.afterPassed f } := by
    unfold State.endPassed Selector.afterPassed
    cases f with
    | acquire l m y =>
      rw [show requestClass (Offered.acquire l m y).kind = true from rfl, Bool.or_true]
      rfl
    | release l =>
      rw [show requestClass (Offered.release l).kind = true from rfl, Bool.or_true]
      rfl
    | cancel l =>
      rw [show requestClass (Offered.cancel l).kind = true from rfl, Bool.or_true]
      rfl
    | leave => rw [show requestClass Offered.leave.kind = false from rfl, Bool.or_false]; rfl
    | join => rw [show requestClass Offered.join.kind = false from rfl, Bool.or_false]; rfl
    | genesis => rw [show requestClass Offered.genesis.kind = false from rfl, Bool.or_false]; rfl
    | ready => rw [show requestClass Offered.ready.kind = false from rfl, Bool.or_false]; rfl
    | evict x => rw [show requestClass (Offered.evict x).kind = false from rfl, Bool.or_false]; rfl
    | presence => rw [show requestClass Offered.presence.kind = false from rfl, Bool.or_false]; rfl
    | segment x e j g => rw [show requestClass (Offered.segment x e j g).kind = false from rfl, Bool.or_false]; rfl
  rw [hreport, passedAtController_eq rfl rfl]

theorem reportPassed_of_offered {s : State} {f : Offered} (h : s.sel.offered = some f) :
    s.reportPassed = (s.withFailures 0).endPassed f := endOffer_passed (s := s.withFailures 0) h

theorem reportPassed_of_none {s : State} (h : s.sel.offered = none) : s.reportPassed = s.withFailures 0 := by
  show (s.withFailures 0).endOffer .passed = _
  rw [State.endOffer, show (s.withFailures 0).sel.offered = none from h]

/-- The report of an own frame that passed leaves the tables and the epoch. -/
theorem reportPassed_keeps (s : State) :
    s.reportPassed.table = s.table ∧ s.reportPassed.commit = { s.commit with failures := 0 } ∧
      s.reportPassed.events = s.events := by
  cases h : s.sel.offered with
  | none =>
    rw [reportPassed_of_none h]
    exact ⟨rfl, rfl, rfl⟩
  | some f =>
    rw [reportPassed_of_offered h, endPassed_eq]
    exact ⟨rfl, rfl, rfl⟩

/-! ### The membership notice (R74, R95, R99, R100) -/

theorem peerNotice_eq (s : State) (n : MemberNotice) :
    s.peerNotice n =
      if n.after = .absent ∨ n.kind = .join then
        { s with
          sel := s.sel.without (· == .evict n.station)
          ctrl := { s.ctrl with
            evicts := s.evictsWithout n.station
            silence := setEntry s.ctrl.silence n.station (if n.after = .absent then .stopped else .running) } }
      else if n.before ≠ n.after then
        { s with ctrl := { s.ctrl with silence := setEntry s.ctrl.silence n.station .running } }
      else s := by
  unfold State.peerNotice
  by_cases hafter : n.after = .absent
  · rw [if_pos hafter, if_pos (.inl hafter), withdrawEvict_eq, if_pos hafter]
    rfl
  · by_cases hkind : n.kind = .join
    · rw [if_neg hafter, if_pos hkind, if_pos (.inr hkind), withdrawEvict_eq, if_neg hafter]
      rfl
    · have hnot : ¬ (n.after = .absent ∨ n.kind = .join) := fun h => h.elim hafter hkind
      rw [if_neg hafter, if_neg hkind, if_neg hnot]
      rfl

theorem memberNotice_of_peer {s : State} {n : MemberNotice} (hactive : s.ctrl.station = .active)
    (hn : n.station ≠ s.ctrl.id) :
    s.memberNotice n = if n.changed then (s.peerNotice n).raiseMembersChanged else s.peerNotice n := by
  have hstill : (s.peerNotice n).ctrl.station = .active := by
    rw [peerNotice_eq]
    split
    · exact hactive
    · split <;> exact hactive
  simp only [State.memberNotice, hactive, if_neg hn, hstill]
  simp

/-- A membership notice leaves the tables and the epoch, or this station leaves its group by it. -/
theorem memberNotice_keeps_or_leaves (s : State) (n : MemberNotice) :
    ((s.memberNotice n).table = s.table ∧ (s.memberNotice n).commit = s.commit) ∨
      (n.station = s.ctrl.id ∧ (n.kind = .leave ∨ n.kind = .evict) ∧
        (s.memberNotice n).table.validity = .none) := by
  have hpeer : (s.peerNotice n).table = s.table ∧ (s.peerNotice n).commit = s.commit := by
    rw [peerNotice_eq]
    split
    · exact ⟨rfl, rfl⟩
    · split <;> exact ⟨rfl, rfl⟩
  have hevict : s.ctrl.station = .active ∨ s.ctrl.station = .synced → s.ownEviction.table.validity = .none := by
    rintro (h | h)
    · simp only [State.ownEviction, h]
      split
      · rw [depart_eq]
        rfl
      · rw [evictedActive_eq]
        rfl
    · simp only [State.ownEviction, h]
      rw [requeueJoin_table]
      rfl
  unfold State.memberNotice
  split
  next hactive =>
    have hraise (u : State) : (if n.changed && u.ctrl.station == .active then u.raiseMembersChanged else u).table =
        u.table ∧ (if n.changed && u.ctrl.station == .active then u.raiseMembersChanged else u).commit = u.commit := by
      split <;> exact ⟨rfl, rfl⟩
    dsimp only
    by_cases hown : n.station = s.ctrl.id
    · rw [if_pos hown, (hraise _).1, (hraise _).2]
      unfold State.ownNotice
      cases hkind : n.kind with
      | leave => exact .inr ⟨hown, .inl rfl, by rw [depart_eq]; rfl⟩
      | evict => exact .inr ⟨hown, .inr rfl, hevict (.inl hactive)⟩
      | _ => exact .inl ⟨rfl, rfl⟩
    · rw [if_neg hown, (hraise _).1, (hraise _).2]
      exact .inl hpeer
  next hsynced =>
    split
    next hown =>
      cases hkind : n.kind with
      | evict => exact .inr ⟨hown, .inr rfl, hevict (.inr hsynced)⟩
      | ready =>
        dsimp only
        split <;> exact .inl ⟨rfl, rfl⟩
      | _ => exact .inl ⟨rfl, rfl⟩
    next => exact .inl ⟨rfl, rfl⟩
  all_goals exact .inl ⟨rfl, rfl⟩

/-! ### What every commit leaves of the tables and the epoch (R26, R27, R47) -/

/-- The application of a commit leaves the table that the Table Engine gives, and the epoch raised by one, or this
station leaves its group by the commit. -/
theorem applyCommit_keeps_or_leaves {s : State} {e : Word16} (hepoch : s.commit.epoch = some e) (x : StationId)
    (c : Change) :
    ((s.applyCommit x c).table = (applyChange s.ctrl.id (e + 1) x c s.table).table ∧
        (s.applyCommit x c).commit = { s.commit with epoch := some (e + 1) }) ∨
      (((c = .leave ∧ x = s.ctrl.id) ∨ c = .evict s.ctrl.id) ∧ (s.applyCommit x c).table.validity = .none) := by
  have happlied : s.applied x c = applyChange s.ctrl.id (e + 1) x c s.table := by
    rw [State.applied, epochAfter_eq hepoch]
  have hnoticed := noticed_notified s x c
  have htable : (s.noticed x c).table = (applyChange s.ctrl.id (e + 1) x c s.table).table := by
    rw [hnoticed.table, ← happlied]
    rfl
  have hcount (u : State) (hu : u.commit = s.commit) : u.countCommit.commit = { s.commit with epoch := some (e + 1) } := by
    show { u.commit with epoch := u.commit.epoch.map (· + 1) } = _
    rw [hu, hepoch]
    rfl
  cases hlock : Change.lock? c with
  | some l =>
    rw [applyCommit_of_none (applyChange_of_request hlock _ _ _ _).1]
    exact .inl ⟨htable, hcount _ hnoticed.commit⟩
  | none =>
    have hmember := applyChange_of_member hlock s.ctrl.id s.epochAfter x s.table
    rw [applyCommit_of_some hmember]
    rcases memberNotice_keeps_or_leaves (s.noticed x c) _ with ⟨htab, hcom⟩ | ⟨hstation, hkind, hvalid⟩
    · exact .inl ⟨htab.trans htable, hcount _ (hcom.trans hnoticed.commit)⟩
    · refine .inr ⟨?_, hvalid⟩
      rw [hnoticed.ctrl] at hstation
      have hsubject : c.subject x = s.ctrl.id := hstation
      have hkinds : c.memberKind = .leave ∨ c.memberKind = .evict := hkind
      cases c with
      | leave => exact .inl ⟨rfl, hsubject⟩
      | evict y => exact .inr (congrArg Change.evict hsubject)
      | join => exact absurd hkinds (by simp [Change.memberKind])
      | ready => exact absurd hkinds (by simp [Change.memberKind])
      | _ => exact nomatch hlock

theorem deliver_keeps_or_leaves {s : State} {d : Delivery} {f : Frame} {c : Change} {e : Word16}
    (hverdict : d.verdict = .passed) (hf : d.frame = some f) (hc : f.content.change? = some c)
    (hvalid : s.table.validity = .complete) (hepoch : s.commit.epoch = some e) :
    ((s.deliver d).table = (applyChange s.ctrl.id (e + 1) f.sender c s.table).table ∧
        (s.deliver d).commit.epoch = some (e + 1)) ∨
      (((c = .leave ∧ f.sender = s.ctrl.id) ∨ c = .evict s.ctrl.id) ∧ (s.deliver d).table.validity = .none) := by
  obtain ⟨sel, ctrl, hshape, hid⟩ := stepHeard_shape s d
  obtain ⟨sel', transfer, heval, -⟩ := stepEvaluate_shape ((s.stepHeard d).applyCommit f.sender c) true
  have hdeliver : (s.deliver d).table = ((s.stepHeard d).applyCommit f.sender c).table ∧
      (s.deliver d).commit.epoch = ((s.stepHeard d).applyCommit f.sender c).commit.epoch := by
    rw [deliver_of_applied hverdict hf hc hvalid]
    split
    · obtain ⟨htable, hcommit, -⟩ := reportPassed_keeps (((s.stepHeard d).applyCommit f.sender c).stepEvaluate true)
      rw [htable, hcommit, heval]
      exact ⟨rfl, rfl⟩
    · rw [heval]
      exact ⟨rfl, rfl⟩
  rw [hdeliver.1, hdeliver.2]
  have hepoch' : (s.stepHeard d).commit.epoch = some e := by rw [hshape]; exact hepoch
  have hid' : (s.stepHeard d).ctrl.id = s.ctrl.id := by rw [hshape]; exact hid
  have htable' : (s.stepHeard d).table = s.table := by rw [hshape]
  have h := applyCommit_keeps_or_leaves hepoch' f.sender c
  rw [hid', htable'] at h
  exact h.imp (fun ⟨htable, hcommit⟩ => ⟨htable, by rw [hcommit]⟩) fun h => h

/-- Settles O60: the table a commit leaves does not depend on the station, and the epoch rises by one at each. -/
theorem stationsInStepStayInStep : Obligations.StationsInStepStayInStep := by
  intro a b ta tb slotsA slotsB da db f hdelA hdelB hfA hfB hverdictA hverdictB hchange hvalid htable hepoch hsome hA hB
    hcompleteA hcompleteB
  obtain ⟨c, hc⟩ := Option.isSome_iff_exists.mp hchange
  obtain ⟨e, he⟩ := Option.isSome_iff_exists.mp hsome
  obtain rfl : (a.takeDelivery slotsA).deliver da = ta :=
    Host.Outcome.next.inj ((exec_frameDelivery_of_delivers hdelA).symm.trans hA)
  obtain rfl : (b.takeDelivery slotsB).deliver db = tb :=
    Host.Outcome.next.inj ((exec_frameDelivery_of_delivers hdelB).symm.trans hB)
  rcases deliver_keeps_or_leaves (s := a.takeDelivery slotsA) hverdictA hfA hc hvalid he with ⟨hta, hea⟩ | ⟨-, hleft⟩
  · rcases deliver_keeps_or_leaves (s := b.takeDelivery slotsB) hverdictB hfB hc (htable ▸ hvalid) (hepoch ▸ he) with
      ⟨htb, heb⟩ | ⟨-, hleft⟩
    · refine ⟨?_, hea.trans heb.symm⟩
      rw [hta, htb]
      show (applyChange a.ctrl.id (e + 1) f.sender c a.table).table =
        (applyChange b.ctrl.id (e + 1) f.sender c b.table).table
      rw [← htable]
      exact applyChange_table_self _ _ _ _ _ _
    · rw [hcompleteB] at hleft
      exact nomatch hleft
  · rw [hcompleteA] at hleft
    exact nomatch hleft

end Sys2Proof.Machine
end

section
/-! SUPPORT. What a commit leaves at the stations of the group: the epoch, the reports, and the notices to intents and
peers. -/

namespace Sys2Proof.Machine

theorem inSet_stationsWith (p : StationId → Bool) (i : StationId) : inSet (stationsWith p) i = p i := by
  have hfold (ls : List StationId) (s : StationSet) :
      inSet (ls.foldl (fun s j => if p j then addTo s j else s) s) i = (inSet s i || (decide (i ∈ ls) && p i)) := by
    induction ls generalizing s with
    | nil => simp
    | cons j ls ih =>
      rw [List.foldl_cons, ih]
      by_cases hji : j = i
      · subst hji
        cases hp : p j <;> simp
      · have hij : i ≠ j := Ne.symm hji
        split <;> simp [hij, hji]
  rw [stationsWith, hfold]
  simp [mem_allStations]

theorem inSet_activeSet (members : Vector MemberEntry 16) (i : StationId) :
    inSet (activeSet members) i = decide (statusIn members i = .active) := by
  rw [activeSet, inSet_stationsWith]
  rfl

/-! ### A request frame applied (R47, R48) -/

/-- After a request frame and the evaluation: the intents and the events are what the notices leave, the epoch has risen
by one, and the Station Controller is as before. -/
theorem applyCommit_of_request {s : State} {x : StationId} {c : Change} {l : LockId} {e : Word16}
    (hlock : Change.lock? c = some l) (hepoch : s.commit.epoch = some e) :
    let v := (s.applyCommit x c).stepEvaluate true
    v.intents = (s.noticed x c).intents ∧ v.events = (s.noticed x c).events ∧ v.ctrl = s.ctrl ∧
      v.commit = { s.commit with epoch := some (e + 1) } ∧ (s.sel.onWire = true → v.sel = s.sel) := by
  intro v
  obtain ⟨sel, transfer, heval, hsel⟩ := stepEvaluate_shape (s.applyCommit x c) true
  have hnotified := noticed_notified s x c
  have happly := applyCommit_of_none (s := s) (applyChange_of_request hlock s.ctrl.id s.epochAfter x s.table).1
  rw [show v = _ from heval, happly]
  rw [happly] at hsel
  refine ⟨rfl, rfl, hnotified.ctrl, ?_, fun hwire => ?_⟩
  · show { (s.noticed x c).commit with epoch := (s.noticed x c).commit.epoch.map (· + 1) } = _
    rw [hnotified.commit]
    show { s.commit with epoch := s.commit.epoch.map (· + 1) } = _
    rw [hepoch]
    rfl
  · have hnoticed : (s.noticed x c).sel = s.sel := (noticed_sel s x c).eq_of_onWire hwire
    exact (hsel.eq_of_onWire (by rw [show (s.noticed x c).countCommit.sel = s.sel from hnoticed]; exact hwire)).trans
      hnoticed

/-! ### A membership frame about a peer, applied at an ACTIVE station (R74, R77, R79) -/

theorem memberKind_eq_join_iff {c : Change} : c.memberKind = .join ↔ c = .join := by
  cases c <;> simp [Change.memberKind]

theorem Selector.Dropped.onWire_offered_iff {P : Offered → Prop} {x y : Selector} (h : x.Dropped P y) (f : Offered) :
    (y.offered = some f ∧ y.onWire = true) ↔ (x.offered = some f ∧ x.onWire = true) := by
  rw [h.onWire]
  refine and_congr_left fun hwire => ?_
  rw [h.eq_of_onWire hwire]

/-- What a membership frame about a peer leaves at an ACTIVE station, before the evaluation. -/
structure State.PeerChanged (s t : State) (x : StationId) (c : Change) (e : Word16) : Prop where
  intents : t.intents = (s.noticed x c).intents
  events  : t.events =
    if entryAt (s.applied x c).table.members (c.subject x) ≠ entryAt s.table.members (c.subject x) then
      (s.noticed x c).events.place (.station (.membersChanged (activeSet (s.applied x c).table.members)))
    else (s.noticed x c).events
  ctrl    : t.ctrl = { s.ctrl with silence := t.ctrl.silence, evicts := t.ctrl.evicts }
  silence : ∀ i, entryAt t.ctrl.silence i =
    if i = c.subject x ∧ statusIn (s.applied x c).table.members i = .absent then .stopped
    else if i = c.subject x ∧ (c = .join ∨ statusIn (s.applied x c).table.members i ≠ statusIn s.table.members i) then
      .running
    else entryAt s.ctrl.silence i
  evicts  : ∀ i, inSet t.ctrl.evicts i =
    (inSet s.ctrl.evicts i &&
      !decide ((i = c.subject x ∧ (statusIn (s.applied x c).table.members i = .absent ∨ c = .join)) ∧
        ¬ (s.sel.offered = some (.evict i) ∧ s.sel.onWire = true)))
  commit  : t.commit = { s.commit with epoch := some (e + 1) }
  sel     : s.sel.Dropped (fun f => ¬ f.OfTransfer) t.sel
  gone    : (statusIn (s.applied x c).table.members (c.subject x) = .absent ∨ c = .join) →
    s.sel.offered = some (.evict (c.subject x)) → s.sel.onWire = false → t.sel.offered = none

theorem not_ofTransfer_of_ofIntents {f : Offered} (h : f.OfIntents) : ¬ f.OfTransfer := fun h' =>
  nomatch h.symm.trans h'

theorem not_ofTransfer_of_ofController {f : Offered} (h : f.OfController) : ¬ f.OfTransfer := fun h' =>
  nomatch h.symm.trans h'

theorem applyCommit_of_peer {s : State} {x : StationId} {c : Change} {e : Word16} (hlock : Change.lock? c = none)
    (hactive : s.ctrl.station = .active) (hne : c.subject x ≠ s.ctrl.id) (hepoch : s.commit.epoch = some e) :
    s.PeerChanged (s.applyCommit x c) x c e := by
  let v := s.noticed x c
  have hnotified : Notified (s.setTable (s.applied x c).table) v := noticed_notified s x c
  have hsel : s.sel.Dropped Offered.OfIntents v.sel := noticed_sel s x c
  have hctrl : v.ctrl = s.ctrl := hnotified.ctrl
  have hmember := applyChange_of_member hlock s.ctrl.id s.epochAfter x s.table
  let after := statusIn (s.applied x c).table.members (c.subject x)
  let before := statusIn s.table.members (c.subject x)
  let n : MemberNotice :=
    { kind := c.memberKind, station := c.subject x, before, after
      changed := decide (entryAt (s.applied x c).table.members (c.subject x) ≠ entryAt s.table.members (c.subject x)) }
  have happly : s.applyCommit x c = (v.memberNotice n).countCommit := applyCommit_of_some hmember
  have hpeer : v.memberNotice n = if n.changed then (v.peerNotice n).raiseMembersChanged else v.peerNotice n :=
    memberNotice_of_peer (by rw [hctrl]; exact hactive) (by rw [hctrl]; exact hne)
  let w := v.peerNotice n
  have hw : w =
      if after = .absent ∨ c = .join then
        { v with
          sel := v.sel.without (· == .evict (c.subject x))
          ctrl := { s.ctrl with
            evicts := v.evictsWithout (c.subject x)
            silence := setEntry s.ctrl.silence (c.subject x) (if after = .absent then .stopped else .running) } }
      else if before ≠ after then
        { v with ctrl := { s.ctrl with silence := setEntry s.ctrl.silence (c.subject x) .running } }
      else v := by
    refine (peerNotice_eq v n).trans ?_
    rw [hctrl]
    exact if_congr (or_congr_right memberKind_eq_join_iff) rfl rfl
  have hkept : w.intents = v.intents ∧ w.events = v.events ∧ w.commit = v.commit ∧ w.table = v.table := by
    rw [hw]
    split
    · exact ⟨rfl, rfl, rfl, rfl⟩
    · split <;> exact ⟨rfl, rfl, rfl, rfl⟩
  obtain ⟨hintents, hevents, hcommit, htable⟩ := hkept
  have hafter : s.applyCommit x c =
      { w with
        commit := { s.commit with epoch := some (e + 1) }
        events :=
          if entryAt (s.applied x c).table.members (c.subject x) ≠ entryAt s.table.members (c.subject x) then
            v.events.place (.station (.membersChanged (activeSet (s.applied x c).table.members)))
          else v.events } := by
    have hepoch' : { w.commit with epoch := w.commit.epoch.map (· + 1) } = { s.commit with epoch := some (e + 1) } := by
      rw [hcommit, hnotified.commit]
      show { s.commit with epoch := s.commit.epoch.map (· + 1) } = _
      rw [hepoch]
      rfl
    rw [happly, hpeer, ← hepoch', ← hevents]
    have hmembers : (s.applied x c).table.members = w.table.members := by
      rw [htable, hnotified.table]
      rfl
    by_cases hchanged : entryAt (s.applied x c).table.members (c.subject x) ≠ entryAt s.table.members (c.subject x)
    · rw [if_pos (show n.changed = true from decide_eq_true hchanged), if_pos hchanged, hmembers]
      rfl
    · rw [if_neg (show ¬ n.changed = true from fun h => hchanged (of_decide_eq_true h)), if_neg hchanged]
      rfl
  rw [hafter]
  by_cases hclears : after = .absent ∨ c = .join
  · rw [if_pos hclears] at hw
    refine ⟨hintents, rfl, by rw [hw], fun i => ?_, fun i => ?_, rfl, ?_, fun _ hoffered hwire => ?_⟩
    · rw [hw]
      show entryAt (setEntry s.ctrl.silence (c.subject x) (if after = .absent then .stopped else .running)) i = _
      by_cases hi : i = c.subject x
      · subst hi
        rw [entryAt_setEntry_self]
        by_cases habsent : after = .absent
        · rw [if_pos habsent, if_pos ⟨rfl, habsent⟩]
        · rw [if_neg habsent, if_neg fun h => habsent h.2, if_pos ⟨rfl, .inl (hclears.resolve_left habsent)⟩]
      · rw [entryAt_setEntry_ne _ _ (Ne.symm hi), if_neg fun h => hi h.1, if_neg fun h => hi h.1]
    · rw [hw]
      show inSet (v.evictsWithout (c.subject x)) i = _
      rw [inSet_evictsWithout, hctrl]
      congr 2
      refine decide_eq_decide.mpr ?_
      rw [hsel.onWire_offered_iff]
      refine and_congr_left fun _ => ⟨fun hi => ⟨hi, ?_⟩, fun h => h.1⟩
      rw [hi]
      exact hclears
    · rw [hw]
      exact (hsel.mono fun f => not_ofTransfer_of_ofIntents).trans (Selector.dropped_without _ fun f h => by
        rw [eq_of_beq h]
        exact nofun)
    · have hsame : v.sel = s.sel := hsel.eq_of_not hoffered nofun
      rw [hw]
      show (v.sel.without (· == .evict (c.subject x))).offered = none
      rw [hsame, (without_beq_spec s.sel _).1 ⟨hoffered, hwire⟩]
  · rw [if_neg hclears] at hw
    have hwsel : w.sel = v.sel := by
      rw [hw]
      split <;> rfl
    have hsilence : w.ctrl.silence =
        if before ≠ after then setEntry s.ctrl.silence (c.subject x) .running else s.ctrl.silence := by
      rw [hw]
      split
      · rfl
      · rw [hctrl]
    have hevicts : w.ctrl.evicts = s.ctrl.evicts := by
      rw [hw]
      split
      · rfl
      · rw [hctrl]
    refine ⟨hintents, rfl, ?_, fun i => ?_, fun i => ?_, rfl, ?_, fun h => absurd h hclears⟩
    · rw [hw]
      split
      · rfl
      · rw [hctrl]
    · have habsent : ¬ (i = c.subject x ∧ statusIn (s.applied x c).table.members i = .absent) := by
        rintro ⟨rfl, h⟩
        exact hclears (.inl h)
      rw [if_neg habsent]
      show entryAt w.ctrl.silence i = _
      rw [hsilence]
      by_cases hi : i = c.subject x
      · subst hi
        by_cases hchange : before ≠ after
        · rw [if_pos hchange, if_pos ⟨rfl, .inr hchange.symm⟩]
          exact entryAt_setEntry_self _ _ _
        · have hno : ¬ (c.subject x = c.subject x ∧ (c = .join ∨
              statusIn (s.applied x c).table.members (c.subject x) ≠ statusIn s.table.members (c.subject x))) :=
            fun h => h.2.elim (fun hj => hclears (.inr hj)) fun h' => hchange h'.symm
          rw [if_neg hchange, if_neg hno]
      · rw [if_neg (fun h => hi h.1 : ¬ (i = c.subject x ∧ _))]
        split
        · exact entryAt_setEntry_ne _ _ (Ne.symm hi)
        · rfl
    · show inSet w.ctrl.evicts i = _
      have hno : ¬ ((i = c.subject x ∧ (statusIn (s.applied x c).table.members i = .absent ∨ c = .join)) ∧
          ¬ (s.sel.offered = some (.evict i) ∧ s.sel.onWire = true)) := by
        rintro ⟨⟨rfl, h⟩, -⟩
        exact hclears h
      rw [hevicts, decide_eq_false hno]
      simp
    · show s.sel.Dropped _ w.sel
      rw [hwsel]
      exact hsel.mono fun f => not_ofTransfer_of_ofIntents

end Sys2Proof.Machine
end

section
/-! SUPPORT. The statement about commits at the stations of the group, part by part. -/

namespace Sys2Proof.Machine

/-! ### The notices of a commit, on the state before it -/

/-- The notices of a commit act on the intents as they stood: the heard notice and the new table change nothing there. -/
theorem noticed_sameIntents {s u : State} (h : s.SameIntents u) (x : StationId) (c : Change) :
    ((u.applied x c).notices.foldl State.takeNotice s).SameIntents (u.noticed x c) :=
  State.SameIntents.takeNotices (t := u.setTable (u.applied x c).table)
    ⟨h.intents, h.events, h.free, h.onWire, h.offered⟩ _

theorem stepHeard_sameIntents (s : State) (slots : Slots) (d : Delivery) :
    s.SameIntents ((s.takeDelivery slots).stepHeard d) := by
  obtain ⟨sel, ctrl, hshape, -⟩ := stepHeard_shape (s.takeDelivery slots) d
  have hsel := stepHeard_sel (s.takeDelivery slots) d
  rw [hshape] at hsel ⊢
  exact ⟨rfl, rfl, rfl, hsel.onWire, fun f hf => hsel.sameIntents hf⟩

theorem applied_stepHeard {s : State} (slots : Slots) (d : Delivery) {e : Word16} (hepoch : s.commit.epoch = some e)
    (x : StationId) (c : Change) :
    ((s.takeDelivery slots).stepHeard d).applied x c = applyChange s.ctrl.id (e + 1) x c s.table := by
  obtain ⟨sel, ctrl, hshape, hid⟩ := stepHeard_shape (s.takeDelivery slots) d
  have hid' : ((s.takeDelivery slots).stepHeard d).ctrl.id = s.ctrl.id := by rw [hshape]; exact hid
  have hepoch' : ((s.takeDelivery slots).stepHeard d).commit.epoch = some e := by rw [hshape]; exact hepoch
  have htable : ((s.takeDelivery slots).stepHeard d).table = s.table := by rw [hshape]; rfl
  rw [State.applied, epochAfter_eq hepoch', hid', htable]

/-! ### The request queue once an own request has passed (R140, R153) -/

theorem filter_erase_of_not {α : Type} [DecidableEq α] {p : α → Bool} {a : α} (h : p a = false) (l : List α) :
    (l.erase a).filter p = l.filter p := by
  induction l with
  | nil => rfl
  | cons b l ih =>
    by_cases hb : b = a
    · subst hb
      simp [h]
    · rw [List.erase_cons_tail (by simpa using hb), List.filter_cons, List.filter_cons, ih]

theorem filter_queueWithout (x : IntentUnit) (l : LockId) :
    (x.queueWithout l).filter (fun e => e.lock? != some l) = x.queue.filter (fun e => e.lock? != some l) := by
  cases hq : x.queue with
  | nil => rw [queueWithout_nil hq]
  | cons e rest =>
    rw [queueWithout_cons hq]
    split
    · simp [List.filter_cons, List.filter_filter]
    next h =>
      have he : (e.lock? != some l) = false := by
        simp only [Bool.or_eq_true, not_or, Bool.not_eq_true] at h
        exact h.1
      simp [List.filter_filter, he]

/-- An own request on the wire has passed: beside its own entry the queue keeps the entries of the other locks in order,
and all of them where no second entry names its lock. -/
theorem queue_after_passed {x : IntentUnit} {l : LockId} {en : QueueEntry} (hl : en.lock? = some l)
    (hoffer : x.offer = some { frame := en.offer, onWire := true }) {q : List QueueEntry}
    (hq : q = x.queue ∨ q = x.queueWithout l) :
    (q.erase en).filter (fun e => e.lock? != some l) = (x.queue.erase en).filter (fun e => e.lock? != some l) ∧
      ((x.queue.erase en).all (fun e => e.lock? != some l) = true → q.erase en = x.queue.erase en) := by
  have hen : (en.lock? != some l) = false := by simp [hl]
  have herase (q : List QueueEntry) :
      (q.erase en).filter (fun e => e.lock? != some l) = q.filter (fun e => e.lock? != some l) :=
    filter_erase_of_not (p := fun e : QueueEntry => e.lock? != some l) hen q
  rcases hq with rfl | rfl
  · exact ⟨rfl, fun _ => rfl⟩
  · refine ⟨by rw [herase, herase, filter_queueWithout], fun hall => ?_⟩
    rw [List.all_eq_true] at hall
    cases hqueue : x.queue with
    | nil => rw [queueWithout_nil hqueue]
    | cons e rest =>
      rw [hqueue] at hall
      by_cases he : e = en
      · subst he
        rw [List.erase_cons_head] at hall
        have hwire : x.entryOnWire e = true := by simp [IntentUnit.entryOnWire, hoffer]
        rw [queueWithout_cons hqueue, hwire, Bool.or_true, if_pos rfl, List.filter_eq_self.mpr hall]
      · rw [List.erase_cons_tail (by simpa using he)] at hall ⊢
        have happart := hall e List.mem_cons_self
        have hrest : ∀ a ∈ rest.erase en, (a.lock? != some l) = true := fun a ha => hall a (List.mem_cons_of_mem e ha)
        have hnot : en ∉ rest.erase en := fun h => Bool.false_ne_true (hen.symm.trans (hrest en h))
        rw [queueWithout_cons hqueue, happart, Bool.true_or, if_pos rfl, ← herase rest,
          List.filter_eq_self.mpr hrest, List.erase_cons_tail (by simpa using he), List.erase_of_not_mem hnot]

/-- The purge of another station gives this one grants of the grant rule and nothing else (R56). -/
theorem evict_notices {self x : StationId} (h : x ≠ self) (e : Word16) (sender : StationId) (t : TableEngine) :
    ∀ n ∈ (applyChange self e sender (.evict x) t).notices, ∃ l m token, n = .grant l m token := by
  intro n hn
  have hn' : n ∈ (applyEvict self t x).notices := hn
  by_cases hx : statusIn t.members x = .absent
  · rw [applyEvict_of_absent hx] at hn'
    exact absurd hn' List.not_mem_nil
  · rw [applyEvict_of_present hx] at hn'
    have hpurge : n ∈ purgeNotices self x t.locks := hn'
    rw [purgeNotices, if_neg h, List.append_nil] at hpurge
    obtain ⟨l, -, hgrant⟩ := List.mem_flatMap.mp hpurge
    obtain ⟨g, -, rfl⟩ := List.mem_map.mp hgrant
    exact ⟨_, _, _, rfl⟩

/-! ### The epoch (R26, R27, R47) -/

theorem commit_raises_epoch {slots : Slots} {s : State} {d : Delivery} {f : Frame} {c : Change} {e : Word16}
    (hdel : s.Delivers slots d) (hf : d.frame = some f) (hc : f.content.change? = some c) (hverdict : d.verdict = .passed)
    (hvalid : s.table.validity = .complete) (hepoch : s.commit.epoch = some e)
    (hleave : ¬ (c = .leave ∧ f.sender = s.ctrl.id)) (hevict : c ≠ .evict s.ctrl.id) :
    ∃ t, exec (.frameDelivery slots) s = .next t ∧ t.commit.epoch = some (e + 1) ∧
      t.table = (applyChange s.ctrl.id (e + 1) f.sender c s.table).table ∧ t.table.validity = .complete := by
  refine ⟨_, exec_frameDelivery_of_delivers hdel, ?_⟩
  rcases deliver_keeps_or_leaves (s := s.takeDelivery slots) hverdict hf hc hvalid hepoch with ⟨htable, hraised⟩ | ⟨h, -⟩
  · refine ⟨hraised, htable, ?_⟩
    rw [htable, member_validity]
    exact hvalid
  · exact absurd h (not_or.mpr ⟨hleave, hevict⟩)

/-! ### Peers (R74, R77, R79) -/

theorem lock?_of_member {c : Change} {x sender : StationId}
    (h : ((c = .join ∨ c = .ready ∨ c = .leave) ∧ x = sender) ∨ c = .evict x) :
    Change.lock? c = none ∧ c.subject sender = x := by
  rcases h with ⟨rfl | rfl | rfl, rfl⟩ | rfl <;> exact ⟨rfl, rfl⟩

theorem and_not_and_not_iff {a p q w : Prop} : ((a ∧ ¬ (p ∧ ¬ w)) ∧ ¬ (q ∧ ¬ w)) ↔ (a ∧ ¬ ((p ∨ q) ∧ ¬ w)) := by
  tauto

theorem commit_about_peer {slots : Slots} {s : State} {d : Delivery} {f : Frame} {c : Change} {e : Word16}
    {x : StationId} (hdel : s.Delivers slots d) (hown : d.own = false) (hf : d.frame = some f)
    (hc : f.content.change? = some c) (hverdict : d.verdict = .passed) (hactive : s.ctrl.station = .active)
    (hvalid : s.table.validity = .complete) (hepoch : s.commit.epoch = some e) (hne : x ≠ s.ctrl.id)
    (hmember : ((c = .join ∨ c = .ready ∨ c = .leave) ∧ x = f.sender) ∨ c = .evict x) :
    let applied := applyChange s.ctrl.id (e + 1) f.sender c s.table
    let noticed : State := applied.notices.foldl State.takeNotice s
    let before := entryAt s.table.members x
    let after := entryAt applied.table.members x
    let given (i : StationId) : Prop := i = f.sender ∨ (i = x ∧ (after.status = .absent ∨ c = .join))
    ∃ t active, exec (.frameDelivery slots) s = .next t ∧
      t.events = (if after ≠ before then noticed.events.place (.station (.membersChanged active)) else noticed.events) ∧
      (∀ i, inSet active i = decide (statusIn applied.table.members i = .active)) ∧
      t.intents = noticed.intents ∧
      t.ctrl = { s.ctrl with silence := t.ctrl.silence, evicts := t.ctrl.evicts } ∧
      (∀ i, entryAt t.ctrl.silence i =
        if i = x ∧ after.status = .absent then .stopped
        else if i = x ∧ (c = .join ∨ after.status ≠ before.status) then .running
        else if i = f.sender ∧ i ≠ s.ctrl.id ∧ statusIn s.table.members i ≠ .absent then .running
        else entryAt s.ctrl.silence i) ∧
      ∀ i, (inSet t.ctrl.evicts i =
          (inSet s.ctrl.evicts i && !decide (given i ∧ ¬ (s.sel.offered = some (.evict i) ∧ s.sel.onWire = true)))) ∧
        (given i → s.sel.offered = some (.evict i) → s.sel.onWire = false → t.sel.offered = none) := by
  intro applied noticed before after given
  obtain ⟨hlock, hsubject⟩ := lock?_of_member hmember
  let u := (s.takeDelivery slots).stepHeard d
  have happlied : u.applied f.sender c = applied := applied_stepHeard slots d hepoch f.sender c
  have hu : u = { s.takeDelivery slots with
      sel := s.sel.without (· == .evict f.sender)
      ctrl := { s.ctrl with evicts := s.evictsWithout f.sender, silence := s.silenceHeard f.sender } } :=
    (stepHeard_of_other hown hf).trans
      ((heard_of_active (s := s.takeDelivery slots) _ _ hactive).trans (heardActive_eq _ _))
  have hsame : noticed.SameIntents (u.noticed f.sender c) := by
    have h := noticed_sameIntents (stepHeard_sameIntents s slots d) f.sender c
    rwa [show ((s.takeDelivery slots).stepHeard d).applied f.sender c = applied from happlied] at h
  obtain ⟨hintents, hevents, hctrl, hsilence, hevicts, -, hsel, hgone⟩ :=
    applyCommit_of_peer (s := u) (x := f.sender) (e := e) hlock (by rw [hu]; exact hactive)
      (by rw [hsubject, hu]; exact hne) (by rw [hu]; exact hepoch)
  rw [happlied, hsubject] at hevents hsilence hgone
  rw [happlied] at hevicts
  simp only [hsubject] at hevicts
  have husel : u.sel = s.sel.without (· == .evict f.sender) := by rw [hu]
  have hudropped : s.sel.Dropped Offered.OfController u.sel := stepHeard_sel (s.takeDelivery slots) d
  obtain ⟨sel, transfer, heval, hselEval⟩ := stepEvaluate_shape (u.applyCommit f.sender c) true
  refine ⟨(u.applyCommit f.sender c).stepEvaluate true, activeSet applied.table.members, ?_, ?_,
    inSet_activeSet _, ?_, ?_, fun i => ?_, fun i => ⟨?_, fun hgiven hoffered hwire => ?_⟩⟩
  · rw [exec_frameDelivery_of_delivers hdel, deliver_of_applied (s := s.takeDelivery slots) hverdict hf hc hvalid,
      if_neg (by simp [hown])]
  · rw [heval]
    refine hevents.trans ?_
    rw [hsame.events, show u.table = s.table by rw [hu]; rfl]
  · rw [heval]
    exact hintents.trans hsame.intents
  · rw [heval]
    refine hctrl.trans ?_
    rw [hu]
  · rw [heval]
    refine (hsilence i).trans ?_
    rw [show u.ctrl.silence = s.silenceHeard f.sender by rw [hu], entryAt_silenceHeard, show u.table = s.table by rw [hu]; rfl]
    by_cases hi : i = x
    · subst hi
      rfl
    · simp only [hi, false_and, if_false]
  · rw [heval]
    refine (hevicts i).trans ?_
    rw [show u.ctrl.evicts = s.evictsWithout f.sender by rw [hu], inSet_evictsWithout, Bool.eq_iff_iff]
    have hafter : (i = x ∧ (statusIn applied.table.members i = .absent ∨ c = .join)) ↔
        (i = x ∧ (after.status = .absent ∨ c = .join)) :=
      and_congr_right fun hi => by
        subst hi
        exact Iff.rfl
    simp only [Bool.and_eq_true, Bool.not_eq_true', decide_eq_false_iff_not, hudropped.onWire_offered_iff, hafter]
    exact and_not_and_not_iff
  · rw [heval]
    refine hselEval.none ?_
    by_cases hi : i = f.sender
    · refine hsel.none ?_
      rw [husel, (without_beq_spec s.sel _).1 ⟨hi ▸ hoffered, hwire⟩]
    · obtain ⟨rfl, hclears⟩ := hgiven.resolve_left hi
      have hkept : u.sel = s.sel := by
        rw [husel]
        refine (without_beq_spec s.sel _).2 fun h => hi ?_
        exact Offered.evict.inj (Option.some.inj (hoffered.symm.trans h.1))
      exact hgone hclears (by rw [hkept]; exact hoffered) (by rw [hkept]; exact hwire)

/-! ### An own frame that passed (R33, R75, R78, R130, R135, R140, R153) -/

/-- The report of an own frame that passed, off the wire from then on. -/
theorem reportPassed_eq {v : State} {o : Offered} (h : v.sel.offered = some o) :
    v.reportPassed =
      { v with
        commit := { v.commit with failures := 0 }
        sel := v.sel.afterPassed o
        ctrl := (v.ctrl.afterPassed o).afterReport
        transfer := if o = .join then { v.transfer with phase := .listening, log := [], discards := 0, current := none }
          else v.transfer
        intents := v.intents.afterPassed o } := by
  rw [reportPassed_of_offered h, endPassed_eq]
  rfl

/-- The own frames whose report the statement about passed frames speaks of. -/
def Offered.Reported (o : Offered) (self : StationId) : Prop :=
  o = .presence ∨ (∃ x, o = .evict x ∧ x ≠ self) ∨ (∃ l, o = .cancel l ∨ o = .release l) ∨ ∃ l m y, o = .acquire l m y

/-- The Station Controller of an ACTIVE station after the report. -/
theorem afterReport_of_active {x : Controller} (h : x.station = .active) {o : Offered} {self : StationId}
    (ho : o.Reported self) :
    (x.afterPassed o).afterReport =
      { x with
        presence := .running, presencePending := false
        evicts := (match o with
          | .evict y => takeFrom x.evicts y
          | _ => x.evicts) } := by
  unfold Controller.afterReport
  rcases ho with rfl | ⟨y, rfl, -⟩ | ⟨l, rfl | rfl⟩ | ⟨l, m, y, rfl⟩ <;> exact if_pos h

theorem requestClass_of_reported {o : Offered} {self : StationId} (ho : o.Reported self) :
    requestClass o.kind = decide (o.source = .intents) := by
  rcases ho with rfl | ⟨y, rfl, -⟩ | ⟨l, rfl | rfl⟩ | ⟨l, m, y, rfl⟩ <;> rfl

theorem afterPassed_offer {x : IntentUnit} {o : Offered} {self : StationId} (ho : o.Reported self) :
    (x.afterPassed o).offer = if o.source = .intents then none else x.offer := by
  rcases ho with rfl | ⟨y, rfl, -⟩ | ⟨l, rfl | rfl⟩ | ⟨l, m, y, rfl⟩ <;> rfl

/-- What the report of a passed own frame leaves at an ACTIVE station, from a state `v` with the offer still there. -/
theorem report_of_passed {s v : State} {o : Offered} {epoch : Option Word16} (ho : o.Reported s.ctrl.id)
    (hoffered : s.sel.offered = some o) (hactive : s.ctrl.station = .active) (hsel : v.sel = s.sel)
    (hstation : v.ctrl.station = s.ctrl.station)
    (hevicts : ∀ i, o ≠ .evict i → inSet v.ctrl.evicts i = inSet s.ctrl.evicts i)
    (hcommit : v.commit = { s.commit with epoch, drive := .empty }) (hoffer : v.intents.offer = s.intents.offer) :
    let t := v.reportPassed
    t.commit = { s.commit with epoch, failures := 0, drive := .empty } ∧
      t.sel =
        { s.sel with
          offered := none, onWire := false, yieldFlag := s.sel.yieldFlag || decide (o.source = .intents) } ∧
      t.ctrl.station = .active ∧ t.ctrl.presence = .running ∧ t.ctrl.presencePending = false ∧
      (∀ i, inSet t.ctrl.evicts i = (inSet s.ctrl.evicts i && decide (o ≠ .evict i))) ∧
      t.intents.offer = (if o.source = .intents then none else s.intents.offer) ∧
      t.intents = v.intents.afterPassed o := by
  intro t
  have hactive' : v.ctrl.station = .active := hstation.trans hactive
  rw [show t = _ from reportPassed_eq (by rw [hsel]; exact hoffered), afterReport_of_active hactive' ho]
  refine ⟨by rw [hcommit], ?_, hactive', rfl, rfl, fun i => ?_, ?_, rfl⟩
  · rw [hsel, ← requestClass_of_reported ho]
    rfl
  · by_cases hi : o = .evict i
    · subst hi
      simp
    · rw [decide_eq_true hi, Bool.and_true, ← hevicts i hi]
      cases o with
      | evict y =>
        have hyi : ¬ y = i := fun h => hi (h ▸ rfl)
        simp [hyi]
      | _ => rfl
  · exact (afterPassed_offer ho).trans (by rw [hoffer])

/-- The request frame an entry of the queue or a due CANCEL becomes, as a change. -/
def Offered.change? : Offered → Option Change
  | .acquire l m y => some (.acquire l m y)
  | .release l => some (.release l)
  | .cancel l => some (.cancel l)
  | _ => none

theorem own_passed_presence {s : State} {d : Delivery} {f : Frame} {e : Word16} (hown : d.own = true)
    (hverdict : d.verdict = .passed) (hf : d.frame = some f) (hc : f.content = .presence e) :
    s.deliver d = s.reportPassed := by
  have hcommits : s.commitsAt d = false := by simp [State.commitsAt, hf, hc]
  rw [deliver_of_passed hown hverdict, stepApply_of_passed hverdict hf, stepPassed_of_presence hc, hcommits,
    stepEvaluate_false]

/-- An own request frame committed while it is on the wire, before its report: the offer stands, and the queue has lost
entries of the lock at most. -/
theorem own_passed_request {s : State} {slots : Slots} {d : Delivery} {f : Frame} {c : Change} {l : LockId} {e : Word16}
    (hown : d.own = true) (hverdict : d.verdict = .passed) (hf : d.frame = some f) (hc : f.content.change? = some c)
    (hlock : Change.lock? c = some l) (hvalid : s.table.validity = .complete) (hepoch : s.commit.epoch = some e)
    (hwire : s.sel.onWire = true) :
    ∃ v : State, (s.takeDelivery slots).deliver d = v.reportPassed ∧ v.sel = s.sel ∧ v.ctrl = s.ctrl ∧
      v.commit = { s.commit with epoch := some (e + 1), drive := .empty } ∧ v.intents.offer = s.intents.offer ∧
      (v.intents.queue = s.intents.queue ∨ v.intents.queue = s.intents.queueWithout l) := by
  let u := s.takeDelivery slots
  obtain ⟨hintents, -, hctrl, hcommit, hsel⟩ :=
    applyCommit_of_request (s := u) (x := f.sender) hlock (e := e) hepoch
  have hdeliver : u.deliver d = ((u.applyCommit f.sender c).stepEvaluate true).reportPassed := by
    rw [deliver_of_applied (s := u) hverdict hf hc hvalid, if_pos hown, stepHeard_of_own hown]
  obtain ⟨hoffer, hqueue⟩ := takeNotices_of_onWire (s := u.setTable (u.applied f.sender c).table) hwire
    (applyChange_of_request hlock u.ctrl.id u.epochAfter f.sender u.table).2
  exact ⟨_, hdeliver, hsel hwire, hctrl, hcommit, by rw [hintents]; exact hoffer, by rw [hintents]; exact hqueue⟩

/-- An own EVICT of a peer committed while it is on the wire, before its report. -/
theorem own_passed_evict {s : State} {slots : Slots} {d : Delivery} {f : Frame} {x : StationId} {e : Word16}
    (hown : d.own = true) (hverdict : d.verdict = .passed) (hf : d.frame = some f)
    (hc : f.content.change? = some (.evict x)) (hx : x ≠ s.ctrl.id) (hactive : s.ctrl.station = .active)
    (hvalid : s.table.validity = .complete) (hepoch : s.commit.epoch = some e) (hwire : s.sel.onWire = true)
    (hoffered : s.sel.offered = some (.evict x)) :
    ∃ v : State, (s.takeDelivery slots).deliver d = v.reportPassed ∧ v.sel = s.sel ∧ v.ctrl.station = s.ctrl.station ∧
      (∀ i, inSet v.ctrl.evicts i = inSet s.ctrl.evicts i) ∧
      v.commit = { s.commit with epoch := some (e + 1), drive := .empty } ∧ v.intents.offer = s.intents.offer ∧
      v.intents.queue = s.intents.queue := by
  let u := s.takeDelivery slots
  obtain ⟨hintents, -, hctrl, -, hevicts, hcommit, hsel, -⟩ :=
    applyCommit_of_peer (s := u) (x := f.sender) (c := .evict x) rfl hactive hx hepoch
  obtain ⟨sel, transfer, heval, hselEval⟩ := stepEvaluate_shape (u.applyCommit f.sender (.evict x)) true
  have hdeliver : u.deliver d = ((u.applyCommit f.sender (.evict x)).stepEvaluate true).reportPassed := by
    rw [deliver_of_applied (s := u) hverdict hf hc hvalid, if_pos hown, stepHeard_of_own hown]
  have hkept : (u.applyCommit f.sender (.evict x)).sel = s.sel := hsel.eq_of_onWire hwire
  obtain ⟨hoffer, hqueue⟩ := takeNotices_of_grants (s := u.setTable (u.applied f.sender (.evict x)).table) hwire
    (evict_notices hx u.epochAfter f.sender u.table)
  refine ⟨_, hdeliver, ?_, ?_, fun i => ?_, ?_, ?_, ?_⟩
  · rw [heval]
    exact (hselEval.eq_of_onWire (by rw [hkept]; exact hwire)).trans hkept
  · rw [heval]
    exact (congrArg Controller.station hctrl : (u.applyCommit f.sender (.evict x)).ctrl.station = _)
  · rw [heval]
    refine (hevicts i).trans ?_
    have hno : ¬ ((i = x ∧ (statusIn (u.applied f.sender (.evict x)).table.members i = .absent ∨
        Change.evict x = .join)) ∧ ¬ (s.sel.offered = some (.evict i) ∧ s.sel.onWire = true)) := by
      rintro ⟨⟨rfl, -⟩, hoff⟩
      exact hoff ⟨hoffered, hwire⟩
    refine (congrArg (fun b => inSet s.ctrl.evicts i && !b) (decide_eq_false hno)).trans ?_
    simp
  · rw [heval]
    exact hcommit
  · rw [heval]
    show (u.applyCommit f.sender (.evict x)).intents.offer = _
    rw [hintents]
    exact hoffer
  · rw [heval]
    show (u.applyCommit f.sender (.evict x)).intents.queue = _
    rw [hintents]
    exact hqueue

theorem own_frame_passed {slots : Slots} {s : State} {d : Delivery} {o : Offered} {e : Word16}
    (hdel : s.Delivers slots d) (hown : d.own = true) (hf : d.frame = some { sender := s.ctrl.id, content := o.content e })
    (hoffered : s.sel.offered = some o) (hwire : s.sel.onWire = true)
    (hrecord : o.source = .intents → s.intents.offer = some { frame := o, onWire := true })
    (hverdict : d.verdict = .passed) (hactive : s.ctrl.station = .active) (hvalid : s.table.validity = .complete)
    (hepoch : s.commit.epoch = some e) (ho : o.Reported s.ctrl.id) :
    ∃ t, exec (.frameDelivery slots) s = .next t ∧
      t.commit =
        { s.commit with epoch := if o = .presence then some e else some (e + 1), failures := 0, drive := .empty } ∧
      t.sel =
        { s.sel with
          offered := none, onWire := false, yieldFlag := s.sel.yieldFlag || decide (o.source = .intents) } ∧
      t.ctrl.station = .active ∧ t.ctrl.presence = .running ∧ t.ctrl.presencePending = false ∧
      (∀ i, inSet t.ctrl.evicts i = (inSet s.ctrl.evicts i && decide (o ≠ .evict i))) ∧
      (let left := (s.intents.afterPassed o).queue
       let apart (e : QueueEntry) : Bool := decide (e.lock? = none ∨ e.lock? ≠ o.lock?)
       t.intents.queue.filter apart = left.filter apart ∧ (left.all apart = true → t.intents.queue = left)) ∧
      (∀ l, o = .cancel l → (t.intent l).outstanding = none) ∧
      t.intents.offer = if o.source = .intents then none else s.intents.offer := by
  let u := s.takeDelivery slots
  have hexec : exec (.frameDelivery slots) s = .next (u.deliver d) := exec_frameDelivery_of_delivers hdel
  have happart (l : LockId) : (fun q : QueueEntry => decide (q.lock? = none ∨ q.lock? ≠ some l)) =
      fun q => q.lock? != some l := by
    funext q
    cases hq : q.lock? with
    | none => rfl
    | some k => by_cases hk : k = l <;> simp [hk]
  rcases id ho with rfl | ⟨x, rfl, hx⟩ | ⟨l, rfl | rfl⟩ | ⟨l, m, y, rfl⟩
  · obtain ⟨hcommit, hsel, hstation, hpresence, hpending, hevicts, hoffer, hintents⟩ :=
      report_of_passed (s := s) (v := u) (epoch := some e) ho hoffered hactive rfl rfl (fun _ _ => rfl)
        (by rw [← hepoch]; rfl) rfl
    rw [own_passed_presence hown hverdict hf rfl] at hexec
    refine ⟨_, hexec, hcommit, hsel, hstation, hpresence, hpending, hevicts, ?_, fun l hl => (nomatch hl), hoffer⟩
    rw [hintents]
    exact ⟨rfl, fun _ => rfl⟩
  · obtain ⟨v, hdeliver, hvsel, hvstation, hvevicts, hvcommit, hvoffer, hvqueue⟩ :=
      own_passed_evict (slots := slots) hown hverdict hf rfl hx hactive hvalid hepoch hwire hoffered
    obtain ⟨hcommit, hsel, hstation, hpresence, hpending, hevicts, hoffer, hintents⟩ :=
      report_of_passed (s := s) ho hoffered hactive hvsel hvstation (fun i _ => hvevicts i) hvcommit hvoffer
    rw [show u.deliver d = _ from hdeliver] at hexec
    refine ⟨_, hexec, hcommit, hsel, hstation, hpresence, hpending, hevicts, ?_, fun l hl => (nomatch hl), hoffer⟩
    rw [hintents, show (v.intents.afterPassed (.evict x)).queue = v.intents.queue from rfl, hvqueue]
    exact ⟨rfl, fun _ => rfl⟩
  · obtain ⟨v, hdeliver, hvsel, hvctrl, hvcommit, hvoffer, hvqueue⟩ :=
      own_passed_request (slots := slots) (l := l) hown hverdict hf rfl rfl hvalid hepoch hwire
    obtain ⟨hcommit, hsel, hstation, hpresence, hpending, hevicts, hoffer, hintents⟩ :=
      report_of_passed (s := s) ho hoffered hactive hvsel (by rw [hvctrl]) (fun i _ => by rw [hvctrl]) hvcommit hvoffer
    rw [show u.deliver d = _ from hdeliver] at hexec
    refine ⟨_, hexec, hcommit, hsel, hstation, hpresence, hpending, hevicts, ?_, fun k hk => ?_, hoffer⟩
    · rw [hintents]
      have hqueue : v.intents.queue.filter (fun q => q.lock? != some l) =
            s.intents.queue.filter (fun q => q.lock? != some l) ∧
          (s.intents.queue.all (fun q => q.lock? != some l) = true → v.intents.queue = s.intents.queue) := by
        rcases hvqueue with h | h
        · rw [h]
          exact ⟨rfl, fun _ => rfl⟩
        · rw [h]
          exact ⟨filter_queueWithout _ _, fun hall => queueWithout_of_apart (List.all_eq_true.mp hall)⟩
      rw [← happart] at hqueue
      exact hqueue
    · cases hk
      rw [State.intent, hintents]
      exact congrArg IntentRecord.outstanding (entryAt_setEntry_self _ _ _)
  · obtain ⟨v, hdeliver, hvsel, hvctrl, hvcommit, hvoffer, hvqueue⟩ :=
      own_passed_request (slots := slots) (l := l) hown hverdict hf rfl rfl hvalid hepoch hwire
    obtain ⟨hcommit, hsel, hstation, hpresence, hpending, hevicts, hoffer, hintents⟩ :=
      report_of_passed (s := s) ho hoffered hactive hvsel (by rw [hvctrl]) (fun i _ => by rw [hvctrl]) hvcommit hvoffer
    rw [show u.deliver d = _ from hdeliver] at hexec
    refine ⟨_, hexec, hcommit, hsel, hstation, hpresence, hpending, hevicts, ?_, fun k hk => (nomatch hk), hoffer⟩
    rw [hintents]
    have hqueue := queue_after_passed (en := .release l) rfl (hrecord rfl) hvqueue
    rw [← happart] at hqueue
    exact hqueue
  · obtain ⟨v, hdeliver, hvsel, hvctrl, hvcommit, hvoffer, hvqueue⟩ :=
      own_passed_request (slots := slots) (l := l) hown hverdict hf rfl rfl hvalid hepoch hwire
    obtain ⟨hcommit, hsel, hstation, hpresence, hpending, hevicts, hoffer, hintents⟩ :=
      report_of_passed (s := s) ho hoffered hactive hvsel (by rw [hvctrl]) (fun i _ => by rw [hvctrl]) hvcommit hvoffer
    rw [show u.deliver d = _ from hdeliver] at hexec
    refine ⟨_, hexec, hcommit, hsel, hstation, hpresence, hpending, hevicts, ?_, fun k hk => (nomatch hk), hoffer⟩
    rw [hintents]
    have hqueue := queue_after_passed (en := .acquire l m y) rfl (hrecord rfl) hvqueue
    rw [← happart] at hqueue
    exact hqueue

/-! ### The notices of a request frame (R48) -/

/-- What the intents hold once a request frame has committed, at its receivers and at its sender. -/
theorem commit_of_request {slots : Slots} {s : State} {d : Delivery} {f : Frame} {c : Change} {e : Word16} {l : LockId}
    (hdel : s.Delivers slots d) (hf : d.frame = some f) (hc : f.content.change? = some c) (hverdict : d.verdict = .passed)
    (hvalid : s.table.validity = .complete) (hepoch : s.commit.epoch = some e) (hlock : Change.lock? c = some l) :
    let noticed : State := (applyChange s.ctrl.id (e + 1) f.sender c s.table).notices.foldl State.takeNotice s
    (d.own = false → ∃ t, exec (.frameDelivery slots) s = .next t ∧ t.intents = noticed.intents ∧
      t.events = noticed.events) ∧
    ∀ o, d.own = true → s.sel.offered = some o → s.sel.onWire = true →
      ∃ t, exec (.frameDelivery slots) s = .next t ∧ t.events = noticed.events ∧
        t.intents = noticed.intents.afterPassed o := by
  intro noticed
  let u := (s.takeDelivery slots).stepHeard d
  have happlied : u.applied f.sender c = applyChange s.ctrl.id (e + 1) f.sender c s.table :=
    applied_stepHeard slots d hepoch f.sender c
  have hsame : noticed.SameIntents (u.noticed f.sender c) := by
    have h := noticed_sameIntents (stepHeard_sameIntents s slots d) f.sender c
    rwa [show ((s.takeDelivery slots).stepHeard d).applied f.sender c = _ from happlied] at h
  obtain ⟨sel, ctrl, hshape, -⟩ := stepHeard_shape (s.takeDelivery slots) d
  have hepoch' : u.commit.epoch = some e := by
    rw [show u = _ from hshape]
    exact hepoch
  obtain ⟨hintents, hevents, -, -, hsel⟩ := applyCommit_of_request (s := u) (x := f.sender) hlock hepoch'
  have hexec : exec (.frameDelivery slots) s = .next _ :=
    (exec_frameDelivery_of_delivers hdel).trans
      (congrArg Host.Outcome.next (deliver_of_applied (s := s.takeDelivery slots) hverdict hf hc hvalid))
  refine ⟨fun hown => ⟨_, hexec, ?_, ?_⟩, fun o hown hoffered hwire => ⟨_, hexec, ?_, ?_⟩⟩
  · rw [if_neg (by simp [hown])]
    exact hintents.trans hsame.intents
  · rw [if_neg (by simp [hown])]
    exact hevents.trans hsame.events
  all_goals
    have hu : u.sel = s.sel := by
      rw [show u = s.takeDelivery slots from stepHeard_of_own hown]
      rfl
    have hoffered' : ((u.applyCommit f.sender c).stepEvaluate true).sel.offered = some o := by
      rw [hsel (by rw [hu]; exact hwire), hu]
      exact hoffered
    rw [if_pos hown, reportPassed_eq hoffered']
  · exact hevents.trans hsame.events
  · exact congrArg (IntentUnit.afterPassed · o) (hintents.trans hsame.intents)

/-- Settles O39: the table and the epoch; the own frame's report; the peers; the intents. -/
theorem commitRaisesTheEpoch : Obligations.CommitRaisesTheEpoch := by
  refine ⟨fun slots s d f c e hdel hf hc hverdict hvalid hepoch hleave hevict =>
      commit_raises_epoch hdel hf hc hverdict hvalid hepoch hleave hevict,
    fun slots s d o e hdel hown hf hoffered hwire hrecord hverdict hactive hvalid hepoch ho => ?_,
    fun slots s d f c e x hdel hown hf hc hverdict hactive hvalid hepoch hne hmember =>
      commit_about_peer hdel hown hf hc hverdict hactive hvalid hepoch hne hmember,
    fun slots s d f c e hdel hf hc hverdict hvalid hepoch hrequest => ?_⟩
  · have hpassed := own_frame_passed hdel hown hf hoffered hwire hrecord hverdict hactive hvalid hepoch ho
    rcases ho with rfl | ⟨x, rfl, -⟩ | ⟨l, rfl | rfl⟩ | ⟨l, m, y, rfl⟩ <;> exact hpassed
  have hlock : ∃ l, Change.lock? c = some l := by
    rcases hrequest with ⟨l, m, y, rfl⟩ | ⟨l, rfl | rfl⟩ <;> exact ⟨l, rfl⟩
  obtain ⟨l, hlock⟩ := hlock
  obtain ⟨hother, hown⟩ := commit_of_request hdel hf hc hverdict hvalid hepoch hlock
  refine ⟨hother, fun o howned _ hoffered hcontent hwire hrecord => ?_⟩
  obtain ⟨t, hexec, hevents, hintents⟩ := hown o howned hoffered hwire
  refine ⟨t, hexec, hevents, ?_⟩
  have hkind : (∃ k, o = .cancel k) ∨ (∃ k, o = .release k) ∨ ∃ k m y, o = .acquire k m y := by
    rw [← hcontent] at hc
    cases o with
    | cancel k => exact .inl ⟨k, rfl⟩
    | release k => exact .inr (.inl ⟨k, rfl⟩)
    | acquire k m y => exact .inr (.inr ⟨k, m, y, rfl⟩)
    | _ => rcases hrequest with ⟨l, m, y, rfl⟩ | ⟨l, rfl | rfl⟩ <;> exact nomatch hc
  unfold State.intent
  rw [hintents]
  rcases hkind with ⟨k, rfl⟩ | ⟨k, rfl⟩ | ⟨k, m, y, rfl⟩
  · refine ⟨fun i => ?_, rfl, rfl, rfl⟩
    refine (entryAt_setEntry _ _ _ _).trans ?_
    by_cases hi : k = i
    · subst hi
      rw [if_pos rfl, if_pos rfl]
    · rw [if_neg hi, if_neg fun h => hi (Offered.cancel.inj h)]
  · exact ⟨fun i => (if_neg nofun).symm, rfl, rfl, rfl⟩
  · exact ⟨fun i => (if_neg nofun).symm, rfl, rfl, rfl⟩

end Sys2Proof.Machine
end

section
/-! SUPPORT. The commits by which a station enters its group and leaves it: the own GENESIS, the own READY, the own LEAVE
and the own eviction. -/

namespace Sys2Proof.Machine

/-! ### Becoming ACTIVE (R77, R95) -/

theorem entryAt_startedSilence (self : StationId) (members : Vector MemberEntry 16) (i : StationId) :
    entryAt (startedSilence self members) i =
      if i ≠ self ∧ statusIn members i ≠ .absent then .running else .stopped := by
  simp [startedSilence, entryAt]

theorem entryAt_freshMembers (founder i : StationId) :
    entryAt (freshTable founder).members i =
      { status := if i = founder then .active else .absent, joinEpoch := 0 } := by
  refine (entryAt_setEntry _ _ _ _).trans ?_
  by_cases h : i = founder
  · rw [if_pos h.symm, if_pos h]
  · rw [if_neg (Ne.symm h), if_neg h, entryAt_replicate]
    rfl

theorem startedSilence_fresh (founder : StationId) :
    startedSilence founder (freshTable founder).members = Vector.replicate 16 .stopped := by
  refine table_ext fun i => ?_
  rw [entryAt_startedSilence, entryAt_replicate, if_neg]
  rintro ⟨hne, hstatus⟩
  rw [statusIn, entryAt_freshMembers, if_neg hne] at hstatus
  exact hstatus rfl

theorem activeSet_fresh (founder : StationId) : activeSet (freshTable founder).members = single founder := by
  refine stations_ext fun i => ?_
  rw [inSet_activeSet, inSet_single, statusIn, entryAt_freshMembers]
  by_cases h : i = founder
  · simp [h]
  · simp [h, Ne.symm h]

theorem own_genesis {slots : Slots} {s : State} {d : Delivery} {f : Frame} (hdel : s.Delivers slots d)
    (hown : d.own = true) (hf : d.frame = some f) (hc : f.content = .genesis) (hverdict : d.verdict = .passed)
    (hoffered : s.sel.offered = some .genesis) :
    ∃ t, exec (.frameDelivery slots) s = .next t ∧
      t.table.validity = .complete ∧
      (∀ l, entryAt t.table.locks l = { mode := .free, holders := 0, waiters := [], grants := 0 }) ∧
      (∀ i, entryAt t.table.members i =
        { status := if i = s.ctrl.id then .active else .absent, joinEpoch := 0 }) ∧
      t.commit.epoch = some 1 ∧ t.commit.failures = 0 ∧
      t.ctrl.station = .active ∧ t.ctrl.attempts = 0 ∧ t.ctrl.control = none ∧ t.ctrl.presence = .running ∧
      t.ctrl.silence = Vector.replicate 16 .stopped ∧ t.ctrl.joinDeadline = .stopped ∧ t.sel.offered = none ∧
      t.events = (s.events.place (.station .joined)).place (.station (.membersChanged (single s.ctrl.id))) := by
  let u := s.takeDelivery slots
  have happly : u.stepApply d = u.ownGenesis := by
    rw [stepApply_of_passed hverdict hf, stepPassed_of_genesis hc, hown]
    rfl
  obtain ⟨sel, transfer, heval, hsel⟩ := stepEvaluate_shape u.ownGenesis (u.commitsAt d)
  have hkept : sel = s.sel := hsel.eq_of_not (f := .genesis) hoffered nofun
  have hdeliver : u.deliver d = ({ u.ownGenesis with sel, transfer } : State).reportPassed := by
    rw [deliver_of_passed hown hverdict, happly, heval]
  have hreport : ({ u.ownGenesis with sel, transfer } : State).reportPassed = _ :=
    reportPassed_eq (o := .genesis) (by rw [hkept]; exact hoffered)
  have hcontrol : (({ u.ownGenesis with sel, transfer } : State).ctrl.afterPassed .genesis).afterReport =
      { s.ctrl.stopTimers with
        station := .active, control := none, attempts := 0, presence := .running, presencePending := false
        silence := startedSilence s.ctrl.id (freshTable s.ctrl.id).members } := rfl
  refine ⟨_, exec_frameDelivery_of_delivers hdel, ?_⟩
  rw [show (s.takeDelivery slots).deliver d = _ from hdeliver, hreport, hcontrol, startedSilence_fresh, ← activeSet_fresh]
  exact ⟨rfl, fun l => entryAt_replicate _ _, entryAt_freshMembers s.ctrl.id, rfl, rfl, rfl, rfl, rfl, rfl, rfl, rfl, rfl,
    rfl⟩

theorem own_ready {slots : Slots} {s : State} {d : Delivery} {epoch e j : Word16} (hdel : s.Delivers slots d)
    (hown : d.own = true) (hf : d.frame = some { sender := s.ctrl.id, content := .ready epoch })
    (hverdict : d.verdict = .passed) (hsynced : s.ctrl.station = .synced) (hvalid : s.table.validity = .complete)
    (hepoch : s.commit.epoch = some e) (hoffered : s.sel.offered = some .ready)
    (hentry : entryAt s.table.members s.ctrl.id = { status := .joining, joinEpoch := j }) :
    ∃ t active, exec (.frameDelivery slots) s = .next t ∧
      t.table.validity = .complete ∧ t.table.locks = s.table.locks ∧
      (∀ i, entryAt t.table.members i =
        if i = s.ctrl.id then { status := .active, joinEpoch := 0 } else entryAt s.table.members i) ∧
      t.commit = { s.commit with epoch := some (e + 1), failures := 0, drive := .empty } ∧
      t.ctrl =
        { s.ctrl with
          station := .active, attempts := 0, control := none, presence := .running, presencePending := false,
          firstContact := .stopped, joinDeadline := .stopped, deadlineHeld := false, silence := t.ctrl.silence } ∧
      (∀ i, entryAt t.ctrl.silence i =
        if i ≠ s.ctrl.id ∧ statusIn s.table.members i ≠ .absent then .running else .stopped) ∧
      t.sel = { s.sel with offered := none, onWire := false } ∧ t.intents = s.intents ∧
      t.events = (s.events.place (.station .joined)).place (.station (.membersChanged active)) ∧
      ∀ i, inSet active i = decide (i = s.ctrl.id ∨ statusIn s.table.members i = .active) := by
  let u := s.takeDelivery slots
  let members := setEntry s.table.members s.ctrl.id { status := .active, joinEpoch := 0 }
  have hmembers (i : StationId) : entryAt members i =
      if i = s.ctrl.id then { status := .active, joinEpoch := 0 } else entryAt s.table.members i := by
    refine (entryAt_setEntry _ _ _ _).trans ?_
    by_cases h : i = s.ctrl.id
    · rw [if_pos h.symm, if_pos h]
    · rw [if_neg (Ne.symm h), if_neg h]
  let v : State := u.setTable { s.table with members }
  have happlied : u.applied s.ctrl.id .ready =
      { table := { s.table with members }, notices := [], member := some
          { kind := .ready, station := s.ctrl.id, before := .joining, after := .active, changed := true } } := by
    have hstatus : statusIn s.table.members s.ctrl.id = .joining := by rw [statusIn, hentry]
    show applyReady s.ctrl.id s.table s.ctrl.id = _
    rw [applyReady, if_pos hstatus, applyMember, hentry]
    rfl
  have hready : u.applyCommit s.ctrl.id .ready = v.becomeActive.raiseMembersChanged.countCommit := by
    rw [applyCommit_of_some (congrArg Application.member happlied)]
    refine congrArg State.countCommit ?_
    have hnoticed : u.noticed s.ctrl.id .ready = v := by rw [State.noticed, happlied]; rfl
    rw [hnoticed]
    simp only [State.memberNotice, show v.ctrl.station = .synced from hsynced]
    exact (if_pos rfl).trans (if_pos trivial)
  obtain ⟨sel, transfer, heval, hsel⟩ := stepEvaluate_shape v.becomeActive.raiseMembersChanged.countCommit true
  have hkept : sel = s.sel := hsel.eq_of_not (f := .ready) hoffered nofun
  have hdeliver : u.deliver d =
      ({ v.becomeActive.raiseMembersChanged.countCommit with sel, transfer } : State).reportPassed := by
    rw [deliver_of_applied (s := u) (c := .ready) hverdict hf rfl hvalid, if_pos hown, stepHeard_of_own hown, hready,
      heval]
  have hreport : ({ v.becomeActive.raiseMembersChanged.countCommit with sel, transfer } : State).reportPassed = _ :=
    reportPassed_eq (o := .ready) (by rw [hkept]; exact hoffered)
  refine ⟨_, activeSet members, exec_frameDelivery_of_delivers hdel, ?_⟩
  rw [show (s.takeDelivery slots).deliver d = _ from hdeliver, hreport, hkept]
  refine ⟨hvalid, rfl, hmembers, ?_, rfl, fun i => ?_, ?_, rfl, rfl, fun i => ?_⟩
  · show ({ s.commit with epoch := s.commit.epoch.map (· + 1), failures := 0, drive := .empty } : CommitUnit) = _
    rw [hepoch]
    rfl
  · refine (entryAt_startedSilence s.ctrl.id members i).trans ?_
    by_cases h : i = s.ctrl.id
    · rw [if_neg fun h' => h'.1 h, if_neg fun h' => h'.1 h]
    · rw [statusIn, hmembers, if_neg h]
      rfl
  · show { s.sel with offered := none, onWire := false, yieldFlag := s.sel.yieldFlag || false } = _
    rw [Bool.or_false]
  · rw [inSet_activeSet, statusIn, hmembers]
    by_cases h : i = s.ctrl.id
    · simp [h]
    · simp [h, statusIn]

/-- Settles O42. -/
theorem ownGenesisFoundsTheGroup : Obligations.OwnGenesisFoundsTheGroup :=
  ⟨fun _ _ _ _ hdel hown hf hc hverdict hoffered => own_genesis hdel hown hf hc hverdict hoffered,
    fun _ _ _ _ _ _ hdel hown hf hverdict hsynced hvalid hepoch hoffered hentry =>
      own_ready hdel hown hf hverdict hsynced hvalid hepoch hoffered hentry⟩

/-! ### The own departure (R56, R72, R73, R99, R100, R155) -/

/-- The purge of this station makes no grant to it, so SELF_PURGED is its one notice. -/
theorem purgeNotices_self (self : StationId) (locks : Vector LockEntry 64) :
    purgeNotices self self locks = [.selfPurged] := by
  have hnone (e : LockEntry) : (purgeEntry self e).2.filter (·.station == self) = [] := by
    refine List.filter_eq_nil_iff.mpr fun g hg hself => ?_
    have hwaiters := grantRun_waiters (purged self e).mode (purged self e).holders (purged self e).grants
      (purged self e).waiters
    have hmem : ({ station := g.station, mode := g.mode } : Waiter) ∈ (purged self e).waiters := by
      rw [hwaiters]
      exact List.mem_append_left _ (List.mem_map.mpr ⟨g, hg, rfl⟩)
    rw [purged_waiters] at hmem
    have hne := (List.mem_filter.mp hmem).2
    simp_all
  have hgrants (l : LockId) : grantNotices self l (purgeEntry self (entryAt locks l)).2 = [] := by
    rw [grantNotices, hnone, List.map_nil]
  rw [purgeNotices, if_pos rfl, List.flatMap_eq_nil_iff.mpr fun l _ => hgrants l]
  rfl

/-- A commit by which this station leaves its group: its own LEAVE, or an EVICT naming it while it stands in the table. -/
def State.LeavesBy (s : State) (sender : StationId) (c : Change) : Prop :=
  (c = .leave ∧ sender = s.ctrl.id) ∨ (c = .evict s.ctrl.id ∧ statusIn s.table.members s.ctrl.id ≠ .absent)

theorem applied_of_leavesBy {s : State} {x : StationId} {c : Change} (h : s.LeavesBy x c) :
    (s.applied x c).notices = [.selfPurged] ∧
      ∃ n, (s.applied x c).member = some n ∧ n.station = s.ctrl.id ∧ n.kind = c.memberKind := by
  rcases h with ⟨rfl, rfl⟩ | ⟨rfl, hpresent⟩
  · exact ⟨purgeNotices_self _ _, _, rfl, rfl, rfl⟩
  · rw [show s.applied x (.evict s.ctrl.id) = applyEvict s.ctrl.id s.table s.ctrl.id from rfl,
      applyEvict_of_present hpresent]
    exact ⟨purgeNotices_self _ _, _, rfl, rfl, rfl⟩

theorem noticed_of_leavesBy {s : State} {x : StationId} {c : Change} (h : s.LeavesBy x c) :
    s.noticed x c = (s.setTable (s.applied x c).table).voidIntents := by
  rw [State.noticed, (applied_of_leavesBy h).1]
  rfl

/-- What the station is once it has left: SEEKING again after an eviction, DETACHED otherwise. -/
structure State.HasLeft (s t : State) (stays : Bool) : Prop where
  epoch       : t.commit.epoch = none
  validity    : t.table.validity = .none
  transfer    : t.transfer = .initial
  intents     : ∀ l, t.intent l = .idle
  queue       : t.intents.queue = []
  timers      : t.intents.timers = Vector.replicate 64 .stopped
  station     : t.ctrl.station = if stays then .seeking else .detached
  control     : t.ctrl.control = if stays then some .join else none
  attempts    : t.ctrl.attempts = if stays then 1 else 0
  leave       : t.ctrl.leavePending = false
  evicts      : t.ctrl.evicts = 0
  pending     : t.ctrl.presencePending = false
  presence    : t.ctrl.presence = .stopped
  silence     : t.ctrl.silence = Vector.replicate 16 .stopped
  events      : t.events = s.lossEvents.place (.station (if stays then .evicted else .left))
  offered     : t.sel.offered = none ∨ t.sel.offered = s.sel.offered

theorem Selector.offered_without (x : Selector) (p : Offered → Bool) :
    (x.without p).offered = none ∨ (x.without p).offered = x.offered := by
  unfold Selector.without
  split
  · split
    · exact .inl rfl
    · exact .inr rfl
  · exact .inr rfl

theorem Selector.offered_departed (x : Selector) (p : Offered → Bool) :
    (x.without p).departed.offered = none ∨ (x.without p).departed.offered = x.offered := by
  have hnone (y : Selector) (q : Offered → Bool) (h : y.offered = none) : (y.without q).offered = none :=
    (Selector.offered_without y q).elim (fun h => h) fun h' => h'.trans h
  show (((x.without p).without _).without _).offered = none ∨ (((x.without p).without _).without _).offered = _
  rcases Selector.offered_without x p with h | h
  · exact .inl (hnone _ _ (hnone _ _ h))
  · rcases Selector.offered_without (x.without p) (·.source == .transfer) with h' | h'
    · exact .inl (hnone _ _ h')
    · exact (Selector.offered_without _ _).imp_right fun h'' => h''.trans (h'.trans h)

theorem applyCommit_of_leavesBy {s : State} {x : StationId} {c : Change} (h : s.LeavesBy x c)
    (hactive : s.ctrl.station = .active) :
    s.HasLeft (s.applyCommit x c) (decide (c = .evict s.ctrl.id) && !s.ctrl.leavePending) := by
  obtain ⟨-, n, hn, hstation, hkind⟩ := applied_of_leavesBy h
  let v : State := (s.setTable (s.applied x c).table).voidIntents
  have hv : v = { s with
      table := (s.applied x c).table, sel := s.sel.without (·.source == .intents), events := s.lossEvents,
      intents := .initial } := voidIntents_eq _
  have hself : n.station = v.ctrl.id := by
    rw [hv]
    exact hstation
  have hown : v.memberNotice n =
      (let t := v.ownNotice n
      if n.changed && t.ctrl.station == .active then t.raiseMembersChanged else t) := by
    simp only [State.memberNotice, show v.ctrl.station = .active by rw [hv]; exact hactive]
    rw [if_pos hself]
  have hdeparts : (decide (c = .evict s.ctrl.id) && !s.ctrl.leavePending) = false → v.ownNotice n = v.depart := by
    intro hstays
    rcases h with ⟨rfl, -⟩ | ⟨rfl, -⟩
    · simp only [State.ownNotice, hkind, Change.memberKind]
    · have hleave : s.ctrl.leavePending = true := by simpa using hstays
      simp only [State.ownNotice, hkind, Change.memberKind, State.ownEviction,
        show v.ctrl.station = .active by rw [hv]; exact hactive]
      exact if_pos (by rw [hv]; exact hleave)
  have hevicted : (decide (c = .evict s.ctrl.id) && !s.ctrl.leavePending) = true → v.ownNotice n = v.evictedActive := by
    intro hstays
    obtain ⟨rfl, hleave⟩ : c = .evict s.ctrl.id ∧ s.ctrl.leavePending = false := by simpa using hstays
    simp only [State.ownNotice, hkind, Change.memberKind, State.ownEviction,
      show v.ctrl.station = .active by rw [hv]; exact hactive]
    exact if_neg (by rw [hv]; simp [hleave])
  rw [applyCommit_of_some hn, noticed_of_leavesBy h, hown]
  rcases Bool.eq_false_or_eq_true (decide (c = .evict s.ctrl.id) && !s.ctrl.leavePending) with hstays | hstays
  · have hleave : s.ctrl.leavePending = false := by
      simp only [Bool.and_eq_true, Bool.not_eq_true'] at hstays
      exact hstays.2
    rw [hevicted hstays, hstays, evictedActive_eq, hv]
    dsimp only
    rw [if_neg (by simp)]
    exact ⟨rfl, rfl, rfl, fun l => entryAt_replicate _ _, rfl, rfl, rfl, rfl, rfl, hleave, rfl, rfl, rfl, rfl, rfl,
      Selector.offered_departed _ _⟩
  · rw [hdeparts hstays, hstays, depart_eq, hv]
    dsimp only
    rw [if_neg (by simp [Controller.initial])]
    exact ⟨rfl, rfl, rfl, fun l => entryAt_replicate _ _, rfl, rfl, rfl, rfl, rfl, rfl, rfl, rfl, rfl, rfl, rfl,
      Selector.offered_departed _ _⟩

/-- The report on the frame by which a station has left finds nothing more to give up. -/
theorem State.HasLeft.reportPassed {s t : State} {stays : Bool} (h : s.HasLeft t stays)
    (hoffered : t.sel.offered = none ∨ t.sel.offered = some .leave ∨ ∃ x, t.sel.offered = some (.evict x)) :
    s.HasLeft t.reportPassed stays := by
  have hreport : t.ctrl.afterReport = t.ctrl := by
    refine if_neg ?_
    rw [h.station]
    cases stays <;> decide
  rcases hoffered with hnone | hleave | ⟨x, hevict⟩
  · rw [reportPassed_of_none hnone]
    exact ⟨h.epoch, h.validity, h.transfer, h.intents, h.queue, h.timers, h.station, h.control, h.attempts, h.leave,
      h.evicts, h.pending, h.presence, h.silence, h.events, .inl hnone⟩
  · rw [reportPassed_eq hleave, show (t.ctrl.afterPassed .leave).afterReport = t.ctrl from hreport]
    refine ⟨h.epoch, h.validity, h.transfer, h.intents, ?_, h.timers, h.station, h.control, h.attempts, h.leave,
      h.evicts, h.pending, h.presence, h.silence, h.events, .inl rfl⟩
    show t.intents.queue.erase .leave = []
    rw [h.queue]
    rfl
  · have hctrl : t.ctrl.afterPassed (.evict x) = t.ctrl := by
      have hzero : takeFrom (0 : StationSet) x = 0 := eq_zero_iff_inSet.mpr fun i => by simp
      show { t.ctrl with evicts := takeFrom t.ctrl.evicts x } = t.ctrl
      rw [h.evicts, hzero, ← h.evicts]
    rw [reportPassed_eq hevict, hctrl, hreport]
    exact ⟨h.epoch, h.validity, h.transfer, h.intents, h.queue, h.timers, h.station, h.control, h.attempts, h.leave,
      h.evicts, h.pending, h.presence, h.silence, h.events, .inl rfl⟩

theorem offered_of_leave {o : Offered} {e : Word16} (h : (o.content e).change? = some .leave) : o = .leave := by
  cases o <;> simp_all [Offered.content, Content.change?]

theorem offered_of_evict {o : Offered} {e : Word16} {x : StationId} (h : (o.content e).change? = some (.evict x)) :
    o = .evict x := by
  cases o <;> simp_all [Offered.content, Content.change?]

theorem own_departure {slots : Slots} {s : State} {d : Delivery} {f : Frame} {c : Change} {e : Word16}
    (hdel : s.Delivers slots d) (hf : d.frame = some f) (hc : f.content.change? = some c)
    (hverdict : d.verdict = .passed) (hvalid : s.table.validity = .complete) (hactive : s.ctrl.station = .active)
    (hown : d.own = true → ∃ o, s.sel.offered = some o ∧ o.content e = f.content) (hleaves : s.LeavesBy f.sender c) :
    ∃ t, exec (.frameDelivery slots) s = .next t ∧
      s.HasLeft t (decide (c = .evict s.ctrl.id) && !s.ctrl.leavePending) := by
  obtain ⟨sel, evicts, silence, hshape, -⟩ := stepHeard_of_member (s := s.takeDelivery slots) d (.inr hactive)
  let u : State := { s.takeDelivery slots with sel, ctrl := { s.ctrl with evicts, silence } }
  have hleft : u.HasLeft (u.applyCommit f.sender c) (decide (c = .evict s.ctrl.id) && !s.ctrl.leavePending) :=
    applyCommit_of_leavesBy (s := u) hleaves hactive
  have hevaluate : (u.applyCommit f.sender c).stepEvaluate true = u.applyCommit f.sender c := by
    refine if_neg ?_
    rw [hleft.station]
    split <;> simp
  have hdeliver := deliver_of_applied (s := s.takeDelivery slots) hverdict hf hc hvalid
  rw [show (s.takeDelivery slots).stepHeard d = u from hshape, hevaluate] at hdeliver
  refine ⟨_, exec_frameDelivery_of_delivers hdel, ?_⟩
  rw [hdeliver]
  have hdropped := stepHeard_sel (s.takeDelivery slots) d
  rw [show (s.takeDelivery slots).stepHeard d = u from hshape] at hdropped
  have hsoffered {t : State} {stays : Bool} (h : u.HasLeft t stays) : s.HasLeft t stays := by
    refine ⟨h.epoch, h.validity, h.transfer, h.intents, h.queue, h.timers, h.station, h.control, h.attempts, h.leave,
      h.evicts, h.pending, h.presence, h.silence, h.events, ?_⟩
    rcases h.offered with h' | h'
    · exact .inl h'
    · rcases hdropped with heq | ⟨-, -, -, -, heq⟩
      · exact .inr (h'.trans (congrArg Selector.offered heq))
      · exact .inl (h'.trans (congrArg Selector.offered heq))
  refine hsoffered ?_
  split
  next howned =>
    obtain ⟨o, hoffered, hcontent⟩ := hown howned
    refine hleft.reportPassed ?_
    rcases (hsoffered hleft).offered with h | h
    · exact .inl h
    · rw [h, hoffered]
      rw [← hcontent] at hc
      refine .inr ?_
      rcases hleaves with ⟨rfl, -⟩ | ⟨rfl, -⟩
      · exact .inl (congrArg some (offered_of_leave hc))
      · exact .inr ⟨_, congrArg some (offered_of_evict hc)⟩
  next => exact hleft

/-- At a SYNCED station the own eviction voids the intents, and the station joins again (R96, R97, R100). -/
theorem own_eviction_synced {slots : Slots} {s : State} {d : Delivery} {f : Frame} {epoch : Word16}
    (hdel : s.Delivers slots d) (hown : d.own = false) (hf : d.frame = some f)
    (hc : f.content = .evict epoch s.ctrl.id) (hverdict : d.verdict = .passed) (hvalid : s.table.validity = .complete)
    (hsynced : s.ctrl.station = .synced) (hpresent : statusIn s.table.members s.ctrl.id ≠ .absent) :
    ∃ t, exec (.frameDelivery slots) s = .next t ∧ State.JoinsAgain { s with events := s.lossEvents } t ∧
      t.intents = .initial ∧ t.port = s.port := by
  let u := s.takeDelivery slots
  have hchange : f.content.change? = some (.evict s.ctrl.id) := by rw [hc]; rfl
  have hleaves : u.LeavesBy f.sender (.evict s.ctrl.id) := .inr ⟨rfl, hpresent⟩
  obtain ⟨-, n, hn, hstation, hkind⟩ := applied_of_leavesBy hleaves
  have hheard : u.stepHeard d = u := by
    rw [stepHeard_of_other hown hf]
    exact heard_of_deaf _ _ (.inr hsynced)
  let v : State := { u with
    table := (u.applied f.sender (.evict s.ctrl.id)).table, sel := s.sel.without (·.source == .intents),
    events := s.lossEvents, intents := .initial }
  have hv : u.noticed f.sender (.evict s.ctrl.id) = v := (noticed_of_leavesBy hleaves).trans (voidIntents_eq _)
  have hnotice : v.memberNotice n = v.requeueJoin := by
    simp only [State.memberNotice, show v.ctrl.station = .synced from hsynced, hkind, Change.memberKind]
    refine (if_pos hstation).trans ?_
    simp only [State.ownEviction, show v.ctrl.station = .synced from hsynced]
  have hepoch : v.requeueJoin.commit.epoch = none := by rw [requeueJoin_shape]
  have happly : u.applyCommit f.sender (.evict s.ctrl.id) = v.requeueJoin := by
    rw [applyCommit_of_some hn, hv, hnotice]
    show { v.requeueJoin with
      commit := { v.requeueJoin.commit with epoch := v.requeueJoin.commit.epoch.map (· + 1) } } = _
    rw [hepoch, Option.map_none, ← hepoch]
  have hevaluate : v.requeueJoin.stepEvaluate true = v.requeueJoin := by
    refine if_neg ?_
    by_cases h : s.ctrl.attempts < 4
    · rw [requeueJoin_of_lt (s := v) h]
      simp
    · rw [requeueJoin_of_limit (s := v) (not_lt.mp h), giveUpJoin_eq]
      simp [Controller.initial]
  refine ⟨v.requeueJoin, ?_, requeueJoin_joinsAgain rfl rfl ⟨s.ctrl.contact, rfl⟩ rfl fun g hg hsource hwire => ?_, ?_, ?_⟩
  · rw [exec_frameDelivery_of_delivers hdel, deliver_of_applied (s := u) hverdict hf hchange hvalid,
      if_neg (by simp [hown]), hheard, happly, hevaluate]
  · have hkept : v.sel = s.sel :=
      (Selector.dropped_without (P := Offered.OfIntents) s.sel fun f h => eq_of_beq h).eq_of_not hg
        fun h => nomatch hsource.symm.trans h
    rw [hkept]
    exact ⟨hg, hwire⟩
  · rw [requeueJoin_shape]
  · rw [requeueJoin_shape]
    rfl

/-- Settles O43. -/
theorem ownDepartureLeavesTheGroup : Obligations.OwnDepartureLeavesTheGroup := by
  refine ⟨fun slots s d f c e hdel hf hc hverdict hvalid _ hactive hown hleaves => ?_,
    fun slots s d f epoch e hdel hown hf hc hverdict hvalid _ hsynced hpresent =>
      own_eviction_synced hdel hown hf hc hverdict hvalid hsynced hpresent⟩
  obtain ⟨t, hexec, h⟩ := own_departure hdel hf hc hverdict hvalid hactive hown hleaves
  exact ⟨t, hexec, h.epoch, h.validity, h.transfer, h.intents, h.queue, h.timers, h.station, h.control, h.attempts,
    h.leave, h.evicts, h.pending, h.presence, h.silence, h.events⟩

end Sys2Proof.Machine
end

section
/-! SUPPORT. The donor side (chapter 6.1): the evaluation, and when it is made. -/

namespace Sys2Proof.Machine

/-! ### The evaluation (R103, R104, R107, R108) -/

theorem mustAbandon_iff (s : State) (img : Image) : s.mustAbandon img = false ↔ s.Serves img := by
  simp [State.mustAbandon, State.Serves]

/-- The donor starts a transfer to the joiner that is next (R103, R104). -/
theorem startTransfer_of_joiner {s : State} {x : StationId} (hactive : s.ctrl.station = .active)
    (hfree : s.transfer.donorPhase = .free) (hdonor : donorOf s.table.members = some s.ctrl.id)
    (hnext : s.nextJoiner = some x) : s.startTransfer = s.capture x := by
  unfold State.startTransfer
  rw [if_pos ⟨hactive, hdonor, hfree⟩, hnext]

theorem startTransfer_of_idle {s : State} (h : donorOf s.table.members ≠ some s.ctrl.id ∨ s.nextJoiner = none) :
    s.startTransfer = s := by
  unfold State.startTransfer
  split
  next h' => rw [h.resolve_left (not_not_intro h'.2.1)]
  next => rfl

theorem startTransfer_of_not_free {s : State} (h : s.transfer.donorPhase ≠ .free) : s.startTransfer = s :=
  if_neg fun h' => h h'.2.2

theorem testTransfer_of_serving {s : State} {img : Image} (hphase : s.transfer.donorPhase = .serving)
    (himg : s.transfer.image = some img) :
    s.testTransfer = if s.mustAbandon img then s.abandonTransfer else s := by
  simp only [State.testTransfer, hphase, himg]

theorem testTransfer_of_free {s : State} (hphase : s.transfer.donorPhase = .free) : s.testTransfer = s := by
  simp only [State.testTransfer, hphase]

theorem abandonTransfer_eq (s : State) :
    s.abandonTransfer =
      { s with
        sel := s.sel.without (·.source == .transfer), transfer := { s.transfer with donorPhase := .free, image := none } } := by
  unfold State.abandonTransfer
  rw [withdraw_of_source fun f hf => by rw [eq_of_beq hf]; decide]
  rfl

/-- The evaluation by what is in progress: it goes on, it is abandoned, or nothing is. -/
theorem evaluateDonor_of_serves {s : State} {img : Image} (hphase : s.transfer.donorPhase = .serving)
    (himg : s.transfer.image = some img) (hserves : s.Serves img) : s.evaluateDonor = s.pruneServed := by
  have htest : s.pruneServed.testTransfer = s.pruneServed := by
    rw [testTransfer_of_serving (s := s.pruneServed) hphase himg, if_neg]
    rw [show s.pruneServed.mustAbandon img = false from (mustAbandon_iff s img).mpr hserves]
    exact Bool.false_ne_true
  rw [State.evaluateDonor, htest]
  refine startTransfer_of_not_free ?_
  rw [show s.pruneServed.transfer.donorPhase = .serving from hphase]
  decide

theorem evaluateDonor_of_abandoned {s : State} {img : Image} (hphase : s.transfer.donorPhase = .serving)
    (himg : s.transfer.image = some img) (hserves : ¬ s.Serves img) :
    s.evaluateDonor = s.pruneServed.abandonTransfer.startTransfer := by
  have htest : s.pruneServed.testTransfer = s.pruneServed.abandonTransfer := by
    rw [testTransfer_of_serving (s := s.pruneServed) hphase himg, if_pos]
    exact Bool.eq_true_of_not_eq_false fun h => hserves ((mustAbandon_iff s img).mp h)
  rw [State.evaluateDonor, htest]

theorem evaluateDonor_of_free {s : State} (hphase : s.transfer.donorPhase = .free) :
    s.evaluateDonor = s.pruneServed.startTransfer := by
  rw [State.evaluateDonor, testTransfer_of_free (s := s.pruneServed) hphase]

/-- What a start leaves: the served set, the tables and the joiner side as they were, and a capture where one is due. -/
theorem startTransfer_spec {s : State} {e : Word16} (hactive : s.ctrl.station = .active)
    (hfree : s.transfer.donorPhase = .free) (hepoch : s.commit.epoch = some e) :
    let t := s.startTransfer
    let next := oldestJoining s.table.members e
      (fun i => decide ({ station := i, joinEpoch := (entryAt s.table.members i).joinEpoch } ∉ s.transfer.served))
    t = { s with transfer := t.transfer } ∧ t.transfer.served = s.transfer.served ∧
      (t.transfer.phase = s.transfer.phase ∧ t.transfer.log = s.transfer.log ∧
        t.transfer.discards = s.transfer.discards ∧ t.transfer.current = s.transfer.current) ∧
      (∀ x, donorOf s.table.members = some s.ctrl.id → next = some x →
        t.transfer.donorPhase = .serving ∧ t.transfer.nextSegment = 0 ∧
        t.transfer.image = some
          { members := s.table.members, locks := s.table.locks, e, target := x,
            j := (entryAt s.table.members x).joinEpoch }) ∧
      ((donorOf s.table.members ≠ some s.ctrl.id ∨ next = none) → t = s) := by
  intro t next
  have hnext : s.nextJoiner = next := by
    have hp : (fun i => !s.transfer.served.contains ⟨i, (entryAt s.table.members i).joinEpoch⟩) =
        (fun i => decide ({ station := i, joinEpoch := (entryAt s.table.members i).joinEpoch } ∉ s.transfer.served)) := by
      funext i
      rw [decide_not, List.contains_eq_mem]
    show oldestJoining s.table.members s.epochValue _ = _
    rw [hp, State.epochValue, hepoch]
    rfl
  by_cases hidle : donorOf s.table.members ≠ some s.ctrl.id ∨ next = none
  · have ht : t = s := startTransfer_of_idle (hidle.imp_right hnext.trans)
    rw [ht]
    refine ⟨rfl, rfl, ⟨rfl, rfl, rfl, rfl⟩, fun x hdonor hx => ?_, fun _ => rfl⟩
    rcases hidle with h | h
    · exact absurd hdonor h
    · exact nomatch h.symm.trans hx
  · obtain ⟨hdonor, hsome⟩ := not_or.mp hidle
    obtain ⟨y, hy⟩ := Option.ne_none_iff_exists'.mp hsome
    have ht : t = s.capture y :=
      startTransfer_of_joiner hactive hfree (not_not.mp hdonor) (hnext.trans hy)
    rw [ht]
    refine ⟨rfl, rfl, ⟨rfl, rfl, rfl, rfl⟩, fun x _ hx => ?_, fun h => absurd h hidle⟩
    have hvalue : s.epochValue = e := by rw [State.epochValue, hepoch]; rfl
    obtain rfl : y = x := Option.some.inj (hy.symm.trans hx)
    rw [State.capture, hvalue]
    exact ⟨rfl, rfl, rfl⟩

/-- The start that closes an evaluation in which nothing goes on. -/
theorem startTransfer_evaluated {u : TransferUnit} {v : State} {e : Word16} (hactive : v.ctrl.station = .active)
    (hepoch : v.commit.epoch = some e) (hphase : v.transfer.donorPhase = .free)
    (hserved : v.transfer.served = u.served.filter (fun x =>
      decide (entryAt v.table.members x.station = { status := .joining, joinEpoch := x.joinEpoch })))
    (himage : v.transfer.image = if u.donorPhase = .serving then none else u.image)
    (hjoiner : v.transfer.phase = u.phase ∧ v.transfer.log = u.log ∧ v.transfer.discards = u.discards ∧
      v.transfer.current = u.current)
    (hstay : ∀ img, u.donorPhase = .serving → u.image = some img → ¬ v.Serves img) :
    State.Evaluated u e v.startTransfer := by
  obtain ⟨hshape, hsame, ⟨hp, hl, hd, hc⟩, hcapture, hidle⟩ := startTransfer_spec hactive hphase hepoch
  have hmembers : v.startTransfer.table = v.table := by rw [hshape]
  have hctrl : v.startTransfer.ctrl = v.ctrl := by rw [hshape]
  refine ⟨?_, fun img hs hi h => absurd ?_ (hstay img hs hi), fun _ => ⟨fun x hdonor hnext => ?_, fun hnone => ?_⟩,
    ⟨hp.trans hjoiner.1, hl.trans hjoiner.2.1, hd.trans hjoiner.2.2.1, hc.trans hjoiner.2.2.2⟩⟩
  · rw [hsame, hserved, hmembers]
  · rw [State.Serves, hmembers, hctrl] at h
    exact h
  · rw [hmembers, hctrl] at hdonor
    rw [hmembers, hsame] at hnext
    rw [hmembers]
    exact hcapture x hdonor hnext
  · rw [hmembers, hctrl, hsame] at hnone
    rw [hidle hnone]
    exact ⟨hphase, himage⟩

theorem evaluateDonor_evaluated {s : State} {e : Word16} (hactive : s.ctrl.station = .active)
    (hepoch : s.commit.epoch = some e) : State.Evaluated s.transfer e s.evaluateDonor := by
  have hpruned : s.pruneServed.transfer.served = s.transfer.served.filter (fun x =>
      decide (entryAt s.table.members x.station = { status := .joining, joinEpoch := x.joinEpoch })) := rfl
  by_cases hserves : ∃ img, s.transfer.donorPhase = .serving ∧ s.transfer.image = some img ∧ s.Serves img
  · obtain ⟨img, hphase, himg, hserves⟩ := hserves
    rw [evaluateDonor_of_serves hphase himg hserves]
    refine ⟨hpruned, fun _ _ h _ => ⟨hphase, h, rfl⟩, fun h => ?_, ⟨rfl, rfl, rfl, rfl⟩⟩
    rcases h with h | ⟨img', -, himg', hnot⟩
    · exact absurd (hphase.symm.trans h) (by decide)
    · rw [himg, Option.some.injEq] at himg'
      exact absurd (himg' ▸ hserves) hnot
  · have hstay : ∀ img, s.transfer.donorPhase = .serving → s.transfer.image = some img → ¬ s.Serves img :=
      fun img hphase himg h => hserves ⟨img, hphase, himg, h⟩
    cases hphase : s.transfer.donorPhase with
    | free =>
      rw [evaluateDonor_of_free hphase]
      refine startTransfer_evaluated (v := s.pruneServed) hactive hepoch hphase hpruned ?_ ⟨rfl, rfl, rfl, rfl⟩ hstay
      rw [hphase, if_neg (by decide)]
      rfl
    | serving =>
      cases himg : s.transfer.image with
      | none =>
        have htest : s.pruneServed.testTransfer = s.pruneServed := by
          simp only [State.testTransfer, show s.pruneServed.transfer.donorPhase = .serving from hphase,
            show s.pruneServed.transfer.image = none from himg]
        rw [State.evaluateDonor, htest, startTransfer_of_not_free (s := s.pruneServed) (by
          rw [show s.pruneServed.transfer.donorPhase = .serving from hphase]; decide)]
        refine ⟨hpruned, fun img _ h => ?_, fun h => ?_, ⟨rfl, rfl, rfl, rfl⟩⟩
        · exact nomatch himg.symm.trans h
        · rcases h with h | ⟨img, -, h, -⟩
          · exact nomatch hphase.symm.trans h
          · exact nomatch himg.symm.trans h
      | some img =>
        rw [evaluateDonor_of_abandoned hphase himg (hstay img hphase himg), abandonTransfer_eq]
        refine startTransfer_evaluated hactive hepoch rfl hpruned ?_ ⟨rfl, rfl, rfl, rfl⟩ hstay
        rw [if_pos hphase]

/-! ### A commit that leaves this station ACTIVE (R103) -/

/-- A membership notice after which the station is ACTIVE leaves the tables, the epoch, the Transfer Unit and the id. -/
theorem memberNotice_stays {s : State} {n : MemberNotice} (hactive : (s.memberNotice n).ctrl.station = .active) :
    ∃ sel ctrl events, s.memberNotice n = { s with sel, ctrl, events } ∧ ctrl.id = s.ctrl.id ∧
      s.sel.Dropped Offered.OfController sel := by
  have hself : ∃ sel ctrl events, s = { s with sel, ctrl, events } ∧ ctrl.id = s.ctrl.id ∧
      s.sel.Dropped Offered.OfController sel := ⟨_, _, _, rfl, rfl, .refl _ _⟩
  have heviction : s.ctrl.station = .active ∨ s.ctrl.station = .synced → s.ownEviction.ctrl.station ≠ .active := by
    rintro (h | h)
    · simp only [State.ownEviction, h]
      split
      · rw [depart_eq]
        nofun
      · rw [evictedActive_eq]
        nofun
    · simp only [State.ownEviction, h]
      by_cases hlimit : s.ctrl.attempts < 4
      · rw [requeueJoin_of_lt hlimit]
        nofun
      · rw [requeueJoin_of_limit (not_lt.mp hlimit), giveUpJoin_eq]
        nofun
  have hpeer : ∃ sel ctrl, s.peerNotice n = { s with sel, ctrl } ∧ ctrl.id = s.ctrl.id ∧
      s.sel.Dropped Offered.OfController sel := by
    have hevict : s.sel.Dropped Offered.OfController (s.sel.without (· == .evict n.station)) :=
      Selector.dropped_without _ fun f h => by rw [eq_of_beq h]; exact rfl
    rw [peerNotice_eq]
    split
    · exact ⟨_, _, rfl, rfl, hevict⟩
    · split
      · exact ⟨_, _, rfl, rfl, .refl _ _⟩
      · exact ⟨_, _, rfl, rfl, .refl _ _⟩
  by_cases hown : n.station = s.ctrl.id
  · cases hstation : s.ctrl.station with
    | active =>
      have hraise : s.memberNotice n =
          if n.changed && (s.ownNotice n).ctrl.station == .active then (s.ownNotice n).raiseMembersChanged
          else s.ownNotice n := by
        simp only [State.memberNotice, hstation, if_pos hown]
      have hstill : (s.ownNotice n).ctrl.station = .active := by
        rw [hraise] at hactive
        split at hactive
        · exact hactive
        · exact hactive
      have hnotice : s.ownNotice n = s := by
        unfold State.ownNotice at hstill ⊢
        cases hkind : n.kind with
        | leave =>
          rw [hkind, depart_eq] at hstill
          exact nomatch hstill
        | evict =>
          rw [hkind] at hstill
          exact absurd hstill (heviction (.inl hstation))
        | _ => rfl
      rw [hraise, hnotice]
      split
      · exact ⟨_, _, _, rfl, rfl, .refl _ _⟩
      · exact hself
    | synced =>
      cases hkind : n.kind with
      | ready =>
        simp only [State.memberNotice, hstation, if_pos hown, hkind]
        split
        · exact ⟨_, _, _, rfl, rfl, .refl _ _⟩
        · exact hself
      | evict =>
        simp only [State.memberNotice, hstation, if_pos hown, hkind] at hactive
        exact absurd hactive (heviction (.inr hstation))
      | _ =>
        simp only [State.memberNotice, hstation, if_pos hown, hkind]
        exact hself
    | _ =>
      simp only [State.memberNotice, hstation]
      exact hself
  · cases hstation : s.ctrl.station with
    | active =>
      obtain ⟨sel, ctrl, hp, hid, hsel⟩ := hpeer
      rw [memberNotice_of_peer hstation hown, hp]
      split
      · exact ⟨_, _, _, rfl, hid, hsel⟩
      · exact ⟨_, _, _, rfl, hid, hsel⟩
    | synced =>
      simp only [State.memberNotice, hstation, if_neg hown]
      exact hself
    | _ =>
      simp only [State.memberNotice, hstation]
      exact hself

/-- A commit after which the station is ACTIVE leaves the Transfer Unit, the id, and a segment on offer. -/
theorem applyCommit_stays {s : State} {x : StationId} {c : Change} {e : Word16} (hepoch : s.commit.epoch = some e)
    (hactive : (s.applyCommit x c).ctrl.station = .active) :
    let t := s.applyCommit x c
    t.transfer = s.transfer ∧ t.commit.epoch = some (e + 1) ∧ t.ctrl.id = s.ctrl.id ∧
      s.sel.Dropped (fun f => ¬ f.OfTransfer) t.sel := by
  intro t
  have hnotified := noticed_notified s x c
  have hsel : s.sel.Dropped (fun f => ¬ f.OfTransfer) (s.noticed x c).sel :=
    (noticed_sel s x c).mono fun _ h h' => nomatch h.symm.trans h'
  have hcount (u : State) (hu : u.commit = s.commit) : u.countCommit.commit.epoch = some (e + 1) := by
    show u.commit.epoch.map (· + 1) = _
    rw [hu, hepoch]
    rfl
  cases hmember : (s.applied x c).member with
  | none =>
    rw [show t = _ from applyCommit_of_none hmember]
    exact ⟨hnotified.transfer, hcount _ hnotified.commit, congrArg Controller.id hnotified.ctrl, hsel⟩
  | some n =>
    have ht : t = ((s.noticed x c).memberNotice n).countCommit := applyCommit_of_some hmember
    rw [show s.applyCommit x c = _ from ht] at hactive
    obtain ⟨sel, ctrl, events, hshape, hid, hsel'⟩ := memberNotice_stays (s := s.noticed x c) (n := n) hactive
    rw [ht, hshape]
    exact ⟨hnotified.transfer, hcount _ hnotified.commit, hid.trans (congrArg Controller.id hnotified.ctrl),
      hsel.trans (hsel'.mono fun _ => not_ofTransfer_of_ofController)⟩

/-- What an evaluation is read from. -/
theorem State.Evaluated.congr {u : TransferUnit} {e : Word16} {s t : State} (h : State.Evaluated u e s)
    (htransfer : t.transfer = s.transfer) (htable : t.table = s.table) (hid : t.ctrl.id = s.ctrl.id) :
    State.Evaluated u e t := by
  obtain ⟨hserved, hstays, hstarts, hjoiner⟩ := h
  simp only [State.Serves] at hstays hstarts
  refine ⟨?_, ?_, ?_, ?_⟩
  · rw [htransfer, htable]
    exact hserved
  · simp only [State.Serves]
    rw [htransfer, htable, hid]
    exact hstays
  · simp only [State.Serves]
    rw [htransfer, htable, hid]
    exact hstarts
  · rw [htransfer]
    exact hjoiner

theorem stepEvaluate_of_active {s : State} (h : s.ctrl.station = .active) : s.stepEvaluate true = s.evaluateDonor :=
  if_pos (by rw [h]; rfl)

theorem stepEvaluate_ctrl (s : State) (committed : Bool) : (s.stepEvaluate committed).ctrl = s.ctrl := by
  obtain ⟨sel, transfer, h, -⟩ := stepEvaluate_shape s committed
  rw [h]

theorem Controller.afterPassed_keeps (x : Controller) (o : Offered) :
    (x.afterPassed o).afterReport.station = x.station ∧ (x.afterPassed o).afterReport.id = x.id := by
  have hpassed : (x.afterPassed o).station = x.station ∧ (x.afterPassed o).id = x.id := by
    cases o <;> exact ⟨rfl, rfl⟩
  unfold Controller.afterReport
  split <;> exact hpassed

theorem reportPassed_ctrl (s : State) :
    s.reportPassed.ctrl.station = s.ctrl.station ∧ s.reportPassed.ctrl.id = s.ctrl.id := by
  cases hoffer : s.sel.offered with
  | none =>
    rw [reportPassed_of_none hoffer]
    exact ⟨rfl, rfl⟩
  | some o =>
    rw [reportPassed_eq hoffer]
    exact s.ctrl.afterPassed_keeps o

/-- The report of an own frame that passed and is no JOIN leaves the Transfer Unit. -/
theorem reportPassed_transfer {s : State} (h : s.sel.offered ≠ some .join) : s.reportPassed.transfer = s.transfer := by
  cases hoffer : s.sel.offered with
  | none =>
    rw [reportPassed_of_none hoffer]
    rfl
  | some o =>
    rw [reportPassed_eq hoffer]
    refine if_neg fun ho => h ?_
    rw [hoffer, ho]

theorem Selector.Dropped.offered_ne {P : Offered → Prop} {x y : Selector} {o : Offered} (h : x.Dropped P y)
    (hne : x.offered ≠ some o) : y.offered ≠ some o := by
  rcases h with rfl | ⟨-, -, -, -, rfl⟩
  · exact hne
  · nofun

section
variable {s : State} {d : Delivery} {f : Frame} {c : Change} {e : Word16}

/-- The commit that a delivery makes, where it leaves the station ACTIVE. -/
theorem committed_stays (hepoch : s.commit.epoch = some e)
    (hactive : ((s.stepHeard d).applyCommit f.sender c).ctrl.station = .active) :
    let w := (s.stepHeard d).applyCommit f.sender c
    w.transfer = s.transfer ∧ w.commit.epoch = some (e + 1) ∧ s.sel.Dropped (fun o => ¬ o.OfTransfer) w.sel := by
  obtain ⟨sel, ctrl, hshape, -⟩ := stepHeard_shape s d
  have hheard := stepHeard_sel s d
  obtain ⟨htransfer, hcommit, -, hsel⟩ := applyCommit_stays (s := s.stepHeard d) (by rw [hshape]; exact hepoch) hactive
  refine ⟨htransfer.trans (by rw [hshape]), hcommit, (hheard.mono fun _ => not_ofTransfer_of_ofController).trans hsel⟩

/-- A committed frame that leaves this station ACTIVE is evaluated with the epoch that it leaves (R103). -/
theorem deliver_evaluated (hverdict : d.verdict = .passed) (hf : d.frame = some f)
    (hc : f.content.change? = some c) (hvalid : s.table.validity = .complete) (hepoch : s.commit.epoch = some e)
    (hown : d.own = true → c ≠ .join ∧ ∃ o, s.sel.offered = some o ∧ o.content e = f.content)
    (hactive : (s.deliver d).ctrl.station = .active) :
    let w := (s.stepHeard d).applyCommit f.sender c
    w.ctrl.station = .active ∧ State.Evaluated s.transfer (e + 1) (s.deliver d) ∧
      (s.deliver d).commit.epoch = some (e + 1) := by
  intro w
  have hdeliver := deliver_of_applied (s := s) hverdict hf hc hvalid
  obtain ⟨sel, transfer, hshape, hdropped⟩ := stepEvaluate_shape w true
  have hevaluates (hw : w.ctrl.station = .active) : State.Evaluated s.transfer (e + 1) (w.stepEvaluate true) ∧
      (w.stepEvaluate true).commit.epoch = some (e + 1) := by
    obtain ⟨htransfer, hcommit, -⟩ := committed_stays hepoch hw
    have heval := evaluateDonor_evaluated hw hcommit
    rw [show w.transfer = s.transfer from htransfer, ← stepEvaluate_of_active hw] at heval
    exact ⟨heval, by rw [hshape]; exact hcommit⟩
  rcases Bool.eq_false_or_eq_true d.own with h | h
  · rw [if_pos h] at hdeliver
    obtain ⟨hjoin, o, ho, hcontent⟩ := hown h
    have hne : s.sel.offered ≠ some .join := fun hj => by
      obtain rfl : o = .join := Option.some.inj (ho.symm.trans hj)
      rw [← hcontent] at hc
      exact hjoin (Option.some.inj hc).symm
    have hw : w.ctrl.station = .active := by
      rwa [hdeliver, (reportPassed_ctrl _).1, stepEvaluate_ctrl] at hactive
    obtain ⟨-, -, hsel⟩ := committed_stays hepoch hw
    have hne' : (w.stepEvaluate true).sel.offered ≠ some .join := by
      rw [hshape]
      exact hdropped.offered_ne (hsel.offered_ne hne)
    obtain ⟨heval, hcommit⟩ := hevaluates hw
    obtain ⟨htable, hreport, -⟩ := reportPassed_keeps (w.stepEvaluate true)
    rw [hdeliver, hreport]
    exact ⟨hw, heval.congr (reportPassed_transfer hne') htable (reportPassed_ctrl _).2, hcommit⟩
  · rw [if_neg (by simp [h])] at hdeliver
    rw [hdeliver] at hactive ⊢
    have hw : w.ctrl.station = .active := by rwa [stepEvaluate_ctrl] at hactive
    exact ⟨hw, hevaluates hw⟩

/-- A segment on offer, off the wire, stays while its transfer goes on, and leaves with it (R108, R136). -/
theorem deliver_segment {img : Image} {o : Offered} (hverdict : d.verdict = .passed) (hf : d.frame = some f)
    (hc : f.content.change? = some c) (hvalid : s.table.validity = .complete) (hepoch : s.commit.epoch = some e)
    (hown : d.own = false) (hactive : ((s.stepHeard d).applyCommit f.sender c).ctrl.station = .active)
    (hphase : s.transfer.donorPhase = .serving) (himg : s.transfer.image = some img)
    (ho : s.sel.offered = some o) (hsource : o.source = .transfer) (hwire : s.sel.onWire = false) :
    ((s.deliver d).Serves img → (s.deliver d).sel.offered = some o) ∧
      (¬ (s.deliver d).Serves img → (s.deliver d).sel.offered = none) := by
  let w := (s.stepHeard d).applyCommit f.sender c
  obtain ⟨htransfer, -, hsel⟩ := committed_stays (s := s) (d := d) (f := f) (c := c) hepoch hactive
  have hdeliver : s.deliver d = w.evaluateDonor := by
    rw [deliver_of_applied (s := s) hverdict hf hc hvalid, if_neg (by simp [hown]), stepEvaluate_of_active hactive]
  have hsame : w.sel = s.sel := hsel.eq_of_not ho (not_not_intro hsource)
  have hphase' : w.transfer.donorPhase = .serving := by rw [← hphase, ← htransfer]
  have himg' : w.transfer.image = some img := by rw [← himg, ← htransfer]
  obtain ⟨sel, transfer, hshape, -⟩ := evaluateDonor_shape w
  have hserves : (s.deliver d).Serves img ↔ w.Serves img := by
    rw [hdeliver, hshape]
    exact Iff.rfl
  rw [hserves, hdeliver]
  refine ⟨fun h => ?_, fun h => ?_⟩
  · rw [evaluateDonor_of_serves hphase' himg' h]
    exact (congrArg Selector.offered hsame).trans ho
  · have hstart (u : State) : u.startTransfer.sel = u.sel := by
      unfold State.startTransfer
      split
      · split <;> rfl
      · rfl
    rw [evaluateDonor_of_abandoned hphase' himg' h, hstart, abandonTransfer_eq]
    show (w.sel.without _).offered = none
    rw [hsame, Selector.without_of_some ho hwire, if_pos (by rw [hsource]; rfl)]

end

/-! ### The own segment (R106, R107) -/

theorem startTransfer_cases (s : State) : s.startTransfer = s ∨ ∃ x, s.startTransfer = s.capture x := by
  unfold State.startTransfer
  split
  · split
    next x _ => exact .inr ⟨x, rfl⟩
    next => exact .inl rfl
  · exact .inl rfl

/-- An evaluation with no transfer in progress leaves everything but the Transfer Unit, and a buffer that is free or
holds an image. -/
theorem evaluateDonor_of_freed {s : State} (hphase : s.transfer.donorPhase = .free) (himg : s.transfer.image = none) :
    ∃ transfer, s.evaluateDonor = { s with transfer } ∧ (transfer.donorPhase = .free → transfer.image = none) ∧
      transfer.served = s.transfer.served.filter (stillServed s.table.members) := by
  rw [evaluateDonor_of_free hphase]
  rcases startTransfer_cases s.pruneServed with h | ⟨x, h⟩
  · rw [h]
    exact ⟨_, rfl, fun _ => himg, rfl⟩
  · rw [h]
    exact ⟨_, rfl, nofun, rfl⟩

/-- An own SNAPSHOT that passed reaches the donor side, and is reported. -/
theorem deliver_of_ownSegment {s : State} {d : Delivery} {f : Frame} {target : StationId} {e j : Word16} {seg : Segment}
    (hown : d.own = true) (hverdict : d.verdict = .passed) (hf : d.frame = some f)
    (hcontent : f.content = .snapshot target e j seg) : s.deliver d = s.segmentAccepted.reportPassed := by
  have hcommits : s.commitsAt d = false := by simp [State.commitsAt, hf, hcontent]
  have happly : s.stepApply d = s.segmentAccepted := by
    rw [stepApply_of_passed hverdict hf]
    simp [State.stepPassed, State.acceptSegment, hcontent, hown]
  rw [deliver_of_passed hown hverdict, hcommits, happly, stepEvaluate_false]

theorem segmentAccepted_of_lt {s : State} {img : Image} (hphase : s.transfer.donorPhase = .serving)
    (himg : s.transfer.image = some img) (h : s.transfer.nextSegment.val < 32) :
    s.segmentAccepted =
      { s with transfer := { s.transfer with nextSegment := ⟨s.transfer.nextSegment.val + 1, by omega⟩ } } := by
  simp only [State.segmentAccepted, hphase, himg, dif_pos h]
  rfl

/-- The Transfer Unit once segment 32 has been accepted, before the evaluation (R107). -/
def TransferUnit.completed (u : TransferUnit) (img : Image) : TransferUnit :=
  { u with
    donorPhase := .free, image := none
    served := if u.served.contains ⟨img.target, img.j⟩ then u.served else u.served ++ [⟨img.target, img.j⟩] }

theorem segmentAccepted_of_last {s : State} {img : Image} (hphase : s.transfer.donorPhase = .serving)
    (himg : s.transfer.image = some img) (h : ¬ s.transfer.nextSegment.val < 32) :
    s.segmentAccepted = ({ s with transfer := s.transfer.completed img } : State).evaluateDonor := by
  simp only [State.segmentAccepted, hphase, himg, dif_neg h]
  rfl

theorem mem_completed (u : TransferUnit) (img : Image) : ⟨img.target, img.j⟩ ∈ (u.completed img).served := by
  show _ ∈ if u.served.contains ⟨img.target, img.j⟩ then u.served else u.served ++ [⟨img.target, img.j⟩]
  split
  next h => exact List.contains_iff_mem.mp h
  next => exact List.mem_append_right _ (List.mem_singleton_self _)

theorem completed_of_unserved {u : TransferUnit} {img : Image} (h : ⟨img.target, img.j⟩ ∉ u.served) :
    u.completed img =
      { u with donorPhase := .free, image := none, served := u.served ++ [⟨img.target, img.j⟩] } := by
  unfold TransferUnit.completed
  rw [if_neg fun hc => h (List.contains_iff_mem.mp hc)]

/-- The report of an own segment that passed (R33, R135). -/
theorem reportPassed_of_segment {s : State} {target : StationId} {e j : Word16} {seg : Segment}
    (h : s.sel.offered = some (.segment target e j seg)) :
    let t := s.reportPassed
    t.sel.offered = none ∧ t.commit = { s.commit with failures := 0 } ∧ t.table = s.table ∧ t.transfer = s.transfer ∧
      t.ctrl.id = s.ctrl.id := by
  intro t
  refine ⟨?_, (reportPassed_keeps s).2.1, (reportPassed_keeps s).1, reportPassed_transfer ?_, (reportPassed_ctrl s).2⟩
  · rw [show t = _ from reportPassed_eq h]
    rfl
  · rw [h]
    nofun

/-! ### The joiner that a JOIN makes (R70, R103, R104) -/

/-- The head of the join queue, in the form of O45. -/
theorem oldestJoining_of_unserved {members : Vector MemberEntry 16} {epoch : Word16} {served : List Served}
    {x : StationId} (hjoining : statusIn members x = .joining)
    (hunserved : { station := x, joinEpoch := (entryAt members x).joinEpoch } ∉ served) :
    ∃ y, oldestJoining members epoch
        (fun i => decide ({ station := i, joinEpoch := (entryAt members i).joinEpoch } ∉ served)) = some y ∧
      statusIn members y = .joining ∧ { station := y, joinEpoch := (entryAt members y).joinEpoch } ∉ served ∧
      ∀ i, statusIn members i = .joining →
        { station := i, joinEpoch := (entryAt members i).joinEpoch } ∉ served →
        ageOf epoch (entryAt members i).joinEpoch ≤ ageOf epoch (entryAt members y).joinEpoch := by
  cases hnext : oldestJoining members epoch
      (fun i => decide ({ station := i, joinEpoch := (entryAt members i).joinEpoch } ∉ served)) with
  | none => exact absurd ⟨hjoining, decide_eq_true hunserved⟩ (oldestJoining_eq_none_iff.mp hnext x)
  | some y =>
    obtain ⟨⟨hy, hpy⟩, holdest⟩ := oldestJoining_eq_some_iff.mp hnext
    refine ⟨y, rfl, hy, of_decide_eq_true hpy, fun i hi hpi => ?_⟩
    by_cases hiy : i = y
    · rw [hiy]
    · rcases holdest i ⟨hi, decide_eq_true hpi⟩ hiy with h | ⟨h, -⟩
      · exact h.le
      · exact h.le

/-- A donor that serves the oldest joiner not yet served, from an image of its tables at the epoch `e` (R103, R104). -/
def State.ServesOldest (t : State) (e : Word16) : Prop :=
  t.transfer.donorPhase = .serving ∧ t.transfer.nextSegment = 0 ∧ t.commit.epoch = some e ∧
    ∃ img, t.transfer.image = some img ∧ img.members = t.table.members ∧ img.locks = t.table.locks ∧
      img.e = e ∧ entryAt t.table.members img.target = { status := .joining, joinEpoch := img.j } ∧
      { station := img.target, joinEpoch := img.j } ∉ t.transfer.served ∧
      ∀ i, statusIn t.table.members i = .joining →
        { station := i, joinEpoch := (entryAt t.table.members i).joinEpoch } ∉ t.transfer.served →
        ageOf e (entryAt t.table.members i).joinEpoch ≤ ageOf e img.j

theorem servesOldest_of_evaluated {u : TransferUnit} {t : State} {e : Word16} {x : StationId}
    (h : State.Evaluated u e t) (hfree : u.donorPhase = .free) (hepoch : t.commit.epoch = some e)
    (hdonor : donorOf t.table.members = some t.ctrl.id) (hjoining : statusIn t.table.members x = .joining)
    (hunserved : { station := x, joinEpoch := (entryAt t.table.members x).joinEpoch } ∉ t.transfer.served) :
    t.ServesOldest e := by
  obtain ⟨y, hnext, hy, hpy, holdest⟩ := oldestJoining_of_unserved (epoch := e) hjoining hunserved
  obtain ⟨hphase, hsegment, himage⟩ := (h.starts (.inl hfree)).1 y hdonor hnext
  exact ⟨hphase, hsegment, hepoch, _, himage, rfl, rfl, rfl, congrArg (MemberEntry.mk · _) hy, hpy, holdest⟩

theorem stepHeard_active {s : State} {d : Delivery} (h : s.ctrl.station = .active) :
    (s.stepHeard d).ctrl.station = .active := by
  unfold State.stepHeard
  split
  · split
    · exact h
    · rw [heard_of_active _ _ h, heardActive_eq]
      exact h
  · exact h

/-- Another station's JOIN, committed while no transfer is in progress: the donor captures for the oldest joiner. -/
theorem deliver_join_serves {s : State} {d : Delivery} {f : Frame} {e : Word16} (hown : d.own = false)
    (hf : d.frame = some f) (hcontent : f.content = .join) (hverdict : d.verdict = .passed)
    (hactive : s.ctrl.station = .active) (hvalid : s.table.validity = .complete) (hepoch : s.commit.epoch = some e)
    (hne : f.sender ≠ s.ctrl.id) (hfree : s.transfer.donorPhase = .free)
    (hunserved : { station := f.sender, joinEpoch := e + 1 } ∉ s.transfer.served)
    (hdonor : donorOf (s.deliver d).table.members = some s.ctrl.id) : (s.deliver d).ServesOldest (e + 1) := by
  have hc : f.content.change? = some .join := by rw [hcontent]; rfl
  obtain ⟨sel, ctrl, hshape, hid⟩ := stepHeard_shape s d
  have hpeer := applyCommit_of_peer (s := s.stepHeard d) (x := f.sender) (c := .join) (e := e) rfl
    (stepHeard_active hactive) (by rw [hshape]; exact fun h => hne (h.trans hid)) (by rw [hshape]; exact hepoch)
  have hctrl : (s.deliver d).ctrl = ((s.stepHeard d).applyCommit f.sender .join).ctrl := by
    rw [deliver_of_applied hverdict hf hc hvalid, if_neg (by simp [hown]), stepEvaluate_ctrl]
  have hstation : (s.deliver d).ctrl.station = .active := by
    rw [hctrl, hpeer.ctrl]
    exact stepHeard_active hactive
  have hself : (s.deliver d).ctrl.id = s.ctrl.id := by
    rw [hctrl, hpeer.ctrl, hshape]
    exact hid
  obtain ⟨-, heval, hcommit⟩ := deliver_evaluated hverdict hf hc hvalid hepoch (fun h => by simp [hown] at h) hstation
  have htable := (deliver_keeps_or_leaves hverdict hf hc hvalid hepoch).resolve_right (by simp)
  have hentry : entryAt (s.deliver d).table.members f.sender = { status := .joining, joinEpoch := e + 1 } := by
    rw [htable.1]
    exact (applyMember_members _ _ _ _ _ _ _).trans (if_pos rfl)
  refine servesOldest_of_evaluated heval hfree hcommit (by rw [hself]; exact hdonor) (x := f.sender) ?_ ?_
  · exact congrArg MemberEntry.status hentry
  · rw [hentry, heval.served]
    exact fun h => hunserved (List.mem_filter.mp h).1

/-- Settles O45: the commit that leaves the station ACTIVE is followed by the evaluation, and so is segment 32. -/
theorem donorServesTheOldestJoiner : Obligations.DonorServesTheOldestJoiner := by
  refine ⟨fun slots s d f e hdel hown hf hcontent hverdict hactive hvalid hepoch hne hfree hunserved => ?_,
    fun slots s d img hdel hown hphase himg hf hoffered hverdict => ?_,
    fun slots s d f c e hdel hf hc hverdict hvalid hepoch hstation hown => ?_⟩
  · exact ⟨_, exec_frameDelivery_of_delivers hdel,
      deliver_join_serves (s := s.takeDelivery slots) hown hf hcontent hverdict hactive hvalid hepoch hne hfree hunserved⟩
  · refine ⟨_, exec_frameDelivery_of_delivers hdel, ?_⟩
    rw [deliver_of_ownSegment (s := s.takeDelivery slots) hown hverdict hf rfl]
    let u : State := s.takeDelivery slots
    by_cases hlast : s.transfer.nextSegment.val < 32
    · let w : State :=
        { u with transfer := { s.transfer with nextSegment := ⟨s.transfer.nextSegment.val + 1, by omega⟩ } }
      have haccepted : u.segmentAccepted = w := segmentAccepted_of_lt (s := u) hphase himg hlast
      obtain ⟨hsel, hcommit, htable, htransfer, -⟩ := reportPassed_of_segment (s := w) hoffered
      rw [show (s.takeDelivery slots).segmentAccepted = w from haccepted, hcommit]
      exact ⟨hsel, rfl, htable, rfl, fun _ => htransfer, fun h => absurd hlast (by rw [h]; decide)⟩
    · let v : State := { u with transfer := u.transfer.completed img }
      obtain ⟨transfer, hv, hfreed, hserved⟩ := evaluateDonor_of_freed (s := v) rfl rfl
      rw [segmentAccepted_of_last (s := u) hphase himg hlast]
      obtain ⟨hsel, hcommit, htable, htransfer, hid⟩ := reportPassed_of_segment (s := v.evaluateDonor)
        (by rw [hv]; exact hoffered)
      refine ⟨hsel, by rw [hcommit], htable.trans (by rw [hv]; rfl), by rw [hcommit, hv]; rfl, fun h => absurd h hlast,
        fun _ => ⟨fun hentry => ?_, ?_, fun e hactive hepoch hunserved => ?_⟩⟩
      · rw [htransfer, hv]
        show _ ∈ transfer.served
        rw [hserved]
        exact List.mem_filter.mpr ⟨mem_completed s.transfer img, decide_eq_true hentry⟩
      · rw [htransfer, hv]
        exact hfreed
      · rw [← completed_of_unserved hunserved]
        exact (evaluateDonor_evaluated (s := v) hactive hepoch).congr htransfer htable hid
  · rw [exec_frameDelivery_of_delivers hdel]
    refine ⟨_, rfl, fun hactive => ?_⟩
    obtain ⟨hw, heval, hcommit⟩ := deliver_evaluated (s := s.takeDelivery slots) hverdict hf hc hvalid hepoch
      (fun h => (hown h).2) hactive
    refine ⟨heval, hcommit, fun img o hphase himg ho hsource hwire => ?_⟩
    rcases Bool.eq_false_or_eq_true d.own with h | h
    · obtain ⟨-, -, o', ho', hcontent⟩ := hown h
      obtain rfl : o = o' := Option.some.inj (ho.symm.trans ho')
      rw [← hcontent] at hc
      cases o with
      | segment target e' j seg => exact nomatch hc
      | _ => exact nomatch hsource
    · exact deliver_segment (s := s.takeDelivery slots) hverdict hf hc hvalid hepoch h hw hphase himg ho hsource hwire

end Sys2Proof.Machine
end

section
/-! SUPPORT. The joiner side (chapters 6.3, 6.4): accepted segments and the replay of the log. -/

namespace Sys2Proof.Machine

/-! ### An accepted SNAPSHOT for this station -/

/-- An accepted segment for this station reaches the joiner side after its heard notice. -/
theorem deliver_of_segment {s : State} {d : Delivery} {f : Frame} {e j : Word16} {seg : Segment}
    (hown : d.own = false) (hverdict : d.verdict = .passed) (hf : d.frame = some f)
    (hcontent : f.content = .snapshot s.ctrl.id e j seg) : s.deliver d = (s.stepHeard d).takeSegment f.sender e j seg := by
  obtain ⟨sel, ctrl, hshape, hid⟩ := stepHeard_shape s d
  have hstep : s.outOfStepBy d = false := by
    simp [State.outOfStepBy, hverdict, kind?_eq_some hf, hcontent, Content.kind]
  have hcommits : s.commitsAt d = false := by simp [State.commitsAt, hf, hcontent]
  rw [deliver_of_other hown hstep, hcommits, stepEvaluate_false, stepApply_of_passed hverdict hf,
    stepPassed_of_snapshot hown hcontent, if_pos (by rw [hshape]; exact hid.symm)]

/-- What a refused segment leaves: the attempt is over, with its table, its epoch and its log (R96, R97, R118). -/
theorem requeueJoin_ends (s : State) :
    s.requeueJoin.table.validity = .none ∧ s.requeueJoin.commit.epoch = none ∧
      s.requeueJoin.transfer.phase = .closed ∧ s.requeueJoin.transfer.log = [] ∧
      s.requeueJoin.ctrl.station = (if s.ctrl.attempts < 4 then .seeking else .detached) := by
  by_cases h : s.ctrl.attempts < 4
  · rw [if_pos h, requeueJoin_of_lt h]
    exact ⟨rfl, rfl, rfl, rfl, rfl⟩
  · rw [if_neg h, requeueJoin_of_limit (not_lt.mp h), giveUpJoin_eq]
    exact ⟨rfl, rfl, rfl, rfl, rfl⟩

/-! ### Segment 0 (R116, R117) -/

theorem recordsCheck_iff {self sender : StationId} {j : Word16} {records : Vector MemberEntry 16} :
    recordsCheck self sender j records = true ↔
      entryAt records self = { status := .joining, joinEpoch := j } ∧
        (statusIn records sender = .active ∧ ∀ i, i < sender → statusIn records i ≠ .active) ∧
        ∀ i, statusIn records i ≠ .joining → (entryAt records i).joinEpoch = 0 := by
  simp only [recordsCheck, Bool.and_eq_true, decide_eq_true_eq, donorOf_eq_some_iff, and_assoc, List.all_eq_true,
    Bool.or_eq_true, beq_iff_eq, or_iff_not_imp_left]
  exact and_congr_right fun _ => and_congr_right fun _ => and_congr_right fun _ =>
    ⟨fun h i => h i (mem_allStations i), fun h i _ => h i⟩

theorem covers_iff {u : TransferUnit} {e j : Word16} :
    u.covers e j = true ↔ u.discards ≤ (e - j).toNat ∧ (e - j).toNat ≤ u.discards + u.log.length := by
  simp [TransferUnit.covers]

theorem takeSegment_members {s : State} (h : s.transfer.phase ≠ .closed) (sender : StationId) (e j : Word16)
    (records : Vector MemberEntry 16) :
    s.takeSegment sender e j (.members records) = s.loadSegment0 sender e j records := by
  cases hphase : s.transfer.phase with
  | closed => exact absurd hphase h
  | listening => simp only [State.takeSegment, hphase]
  | loading => simp only [State.takeSegment, hphase]

theorem receptionStarted_of_seeking {c : Controller} (h : c.station = .seeking) :
    c.receptionStarted = { c with station := .receiving, firstContact := .stopped, contact := false } := by
  simp only [Controller.receptionStarted, h]

theorem receptionStarted_of_receiving {c : Controller} (h : c.station = .receiving) : c.receptionStarted = c := by
  simp only [Controller.receptionStarted, h]

/-! ### Lock segments (R115, R118) -/

theorem takeSegment_locks {s : State} (h : s.transfer.phase = .loading) (sender : StationId) (e j : Word16)
    (pair : Fin 32) (a b : LockEntry) :
    s.takeSegment sender e j (.locks pair a b) = s.lockSegment sender e j pair a b := by
  simp only [State.takeSegment, h]

/-- The transfer of a lock segment, and its place in it. -/
theorem lockSegment_eq {s : State} {cur : Transfer} (h : s.transfer.current = some cur) (sender : StationId)
    (e j : Word16) (pair : Fin 32) (a b : LockEntry) :
    s.lockSegment sender e j pair a b =
      if cur = { donor := sender, e, j, expected := pair.val + 1 } then s.loadLocks cur pair a b else s := by
  simp only [State.lockSegment, h]
  refine if_congr ?_ rfl rfl
  cases cur
  simp

theorem loadPair_of_lawful {t : TableEngine} {pair : Fin 32} {a b : LockEntry}
    (h : a.Lawful t.members ∧ b.Lawful t.members) :
    loadPair t pair a b = some
      { t with locks := setEntry (setEntry t.locks (firstLock pair) a) (secondLock pair) b } :=
  if_pos (by rw [loadCheck_iff.mpr h.1, loadCheck_iff.mpr h.2]; rfl)

theorem loadPair_of_unlawful {t : TableEngine} {pair : Fin 32} {a b : LockEntry}
    (h : ¬ (a.Lawful t.members ∧ b.Lawful t.members)) : loadPair t pair a b = none :=
  if_neg (by rwa [Bool.and_eq_true, loadCheck_iff, loadCheck_iff])

theorem loadLocks_of_lt {s : State} {t : TableEngine} {pair : Fin 32} {a b : LockEntry} (cur : Transfer)
    (hload : loadPair s.table pair a b = some t) (h : pair.val < 31) :
    s.loadLocks cur pair a b =
      { s with
        table := t, transfer := { s.transfer with current := some { cur with expected := cur.expected + 1 } } } := by
  simp only [State.loadLocks, hload, if_pos (show pair.val + 1 < 32 by omega)]
  rfl

theorem loadLocks_of_last {s : State} {t : TableEngine} {pair : Fin 32} {a b : LockEntry} (cur : Transfer)
    (hload : loadPair s.table pair a b = some t) (h : pair.val = 31) :
    s.loadLocks cur pair a b = (s.setTable t).completeReception cur.e := by
  simp only [State.loadLocks, hload, if_neg (show ¬ pair.val + 1 < 32 by omega)]

theorem loadLocks_of_none {s : State} {pair : Fin 32} {a b : LockEntry} (cur : Transfer)
    (hload : loadPair s.table pair a b = none) : s.loadLocks cur pair a b = (s.setTable .discarded).requeueJoin := by
  simp only [State.loadLocks, hload]

/-! ### The replay of the log (R121) -/

/-- A commit at a RECEIVING station is applied to the tables and counted; no membership notice acts. -/
theorem applyCommit_of_receiving {s : State} (h : s.ctrl.station = .receiving) (x : StationId) (c : Change) :
    let t := s.applyCommit x c
    t.table = (s.applied x c).table ∧ t.commit = { s.commit with epoch := s.commit.epoch.map (· + 1) } ∧
      t.transfer = s.transfer ∧ t.ctrl = s.ctrl := by
  intro t
  have hnotified := noticed_notified s x c
  have hkept : t = (s.noticed x c).countCommit := by
    cases hmember : (s.applied x c).member with
    | none => exact applyCommit_of_none hmember
    | some n =>
      refine (applyCommit_of_some hmember).trans (congrArg State.countCommit ?_)
      have hstation : (s.noticed x c).ctrl.station = .receiving := by rw [hnotified.ctrl]; exact h
      simp only [State.memberNotice, hstation]
  have hcommit : (s.noticed x c).commit = s.commit := hnotified.commit
  rw [hkept]
  refine ⟨hnotified.table, ?_, hnotified.transfer, hnotified.ctrl⟩
  rw [← hcommit]
  rfl

/-- The tables and the epoch after the records of a log. -/
def replayed (self : StationId) (log : List LogRecord) (start : TableEngine × Word16) : TableEngine × Word16 :=
  log.foldl (fun p r => ((applyChange self (p.2 + 1) r.sender r.change p.1).table, p.2 + 1)) start

theorem replayed_epoch (self : StationId) (log : List LogRecord) (t : TableEngine) (e : Word16) :
    (replayed self log (t, e)).2 = e + BitVec.ofNat 16 log.length := by
  induction log generalizing t e with
  | nil => exact (BitVec.add_zero e).symm
  | cons r rest ih =>
    refine (ih _ _).trans ?_
    rw [List.length_cons, Nat.add_comm rest.length, BitVec.ofNat_add, ← BitVec.add_assoc]
    rfl

theorem replay_of_receiving (log : List LogRecord) {s : State} {e : Word16} (h : s.ctrl.station = .receiving)
    (hepoch : s.commit.epoch = some e) :
    let t := s.replay log
    t.table = (replayed s.ctrl.id log (s.table, e)).1 ∧
      t.commit = { s.commit with epoch := some (replayed s.ctrl.id log (s.table, e)).2 } ∧
      t.transfer = s.transfer ∧ t.ctrl = s.ctrl := by
  induction log generalizing s e with
  | nil =>
    refine ⟨rfl, ?_, rfl, rfl⟩
    show s.commit = { s.commit with epoch := some e }
    rw [← hepoch]
  | cons r rest ih =>
    obtain ⟨htable, hcommit, htransfer, hctrl⟩ := applyCommit_of_receiving h r.sender r.change
    rw [hepoch] at hcommit
    have happlied : s.applied r.sender r.change = applyChange s.ctrl.id (e + 1) r.sender r.change s.table := by
      rw [State.applied, epochAfter_eq hepoch]
    obtain ⟨htable', hcommit', htransfer', hctrl'⟩ := ih (s := s.applyCommit r.sender r.change) (e := e + 1)
      (by rw [hctrl]; exact h) (by rw [hcommit]; rfl)
    rw [hctrl, htable, happlied] at htable' hcommit'
    rw [hcommit] at hcommit'
    exact ⟨htable', hcommit', htransfer'.trans htransfer, hctrl'.trans hctrl⟩

/-- The reception complete (R121): the log replayed on the loaded tables, and READY pending. -/
theorem completeReception_of_receiving {s : State} (h : s.ctrl.station = .receiving) (e : Word16) :
    let t := s.completeReception e
    t.table = (replayed s.ctrl.id s.transfer.log ({ s.table with validity := .complete }, e)).1 ∧
      t.commit = { s.commit with epoch := some (e + BitVec.ofNat 16 s.transfer.log.length) } ∧
      t.transfer = s.transfer.closeLog ∧ t.ctrl = { s.ctrl with station := .synced, control := some .ready } := by
  intro t
  let u : State := { s with table := { s.table with validity := .complete }, commit := { s.commit with epoch := some e } }
  obtain ⟨htable, hcommit, htransfer, hctrl⟩ := replay_of_receiving s.transfer.log (s := u) (e := e) h rfl
  have ht : t = ((u.replay s.transfer.log).setTransfer (u.replay s.transfer.log).transfer.closeLog).setCtrl
      { (u.replay s.transfer.log).ctrl with station := .synced, control := some .ready } := rfl
  rw [replayed_epoch] at hcommit
  rw [ht]
  refine ⟨htable, hcommit, ?_, ?_⟩
  · exact congrArg TransferUnit.closeLog htransfer
  · exact congrArg (fun c : Controller => { c with station := .synced, control := some .ready }) hctrl

/-- Settles O44: segment 0, then the lock segments, and the replay after the last. -/
theorem segmentZeroStartsTheReception : Obligations.SegmentZeroStartsTheReception := by
  refine ⟨fun slots s d f e j records hdel hown hf hcontent hverdict hopen hstation => ?_,
    fun slots s d f e j pair a b cur hdel hown hf hcontent hverdict hloading hcur hstation => ?_⟩
  · intro n checks
    let u : State := s.takeDelivery slots
    obtain ⟨contact, hheard⟩ := stepHeard_of_joiner (s := u) d hstation
    let v : State := { u with ctrl := { u.ctrl with contact } }
    have hcheck : (recordsCheck v.ctrl.id f.sender j records && v.transfer.covers e j) = true ↔ checks := by
      rw [Bool.and_eq_true, recordsCheck_iff, covers_iff]
      simp only [and_assoc]
      exact Iff.rfl
    refine ⟨_, exec_frameDelivery_of_delivers hdel, ?_⟩
    rw [deliver_of_segment (s := u) hown hverdict hf hcontent, hheard, takeSegment_members (s := v) hopen]
    refine ⟨fun h => ?_, fun h => ?_⟩
    · rw [State.loadSegment0, if_pos (hcheck.mpr h)]
      refine ⟨rfl, rfl, fun hseeking => ?_, fun hreceiving => ?_, rfl, rfl⟩
      · exact receptionStarted_of_seeking (c := v.ctrl) hseeking
      · have hdeaf : u.stepHeard d = u := by
          rw [stepHeard_of_other hown hf, heard_of_deaf (s := u) _ _ (.inl hreceiving)]
        have hctrl : v.ctrl = s.ctrl := (congrArg State.ctrl (hheard.symm.trans hdeaf) : v.ctrl = u.ctrl)
        exact (receptionStarted_of_receiving (c := v.ctrl) hreceiving).trans hctrl
    · rw [State.loadSegment0, if_neg (fun h' => h (hcheck.mp h'))]
      exact requeueJoin_ends (v.setTable .discarded)
  · intro awaited lawful loaded log
    let u : State := s.takeDelivery slots
    have hheard : u.stepHeard d = u := by
      rw [stepHeard_of_other hown hf, heard_of_deaf (s := u) _ _ (.inl hstation)]
    refine ⟨_, exec_frameDelivery_of_delivers hdel, ?_⟩
    rw [deliver_of_segment (s := u) hown hverdict hf hcontent, hheard, takeSegment_locks (s := u) hloading,
      lockSegment_eq (s := u) hcur]
    refine ⟨fun h => if_neg h, fun h hlawful hlt => ?_, fun h hunlawful => ?_, fun h hlawful hlast => ?_⟩
    · rw [if_pos h, loadLocks_of_lt (s := u) cur (loadPair_of_lawful (t := s.table) hlawful) hlt]
      rw [show cur.expected = pair.val + 1 by rw [h]]
      rfl
    · rw [if_pos h, loadLocks_of_none (s := u) cur (loadPair_of_unlawful (t := s.table) hunlawful)]
      exact requeueJoin_ends (u.setTable .discarded)
    · rw [if_pos h, loadLocks_of_last (s := u) cur (loadPair_of_lawful (t := s.table) hlawful) hlast,
        show cur.e = e by rw [h]]
      obtain ⟨htable, hcommit, htransfer, hctrl⟩ := completeReception_of_receiving
        (s := { u with table := loaded }) hstation e
      exact ⟨htable, hcommit, htransfer, hctrl⟩

end Sys2Proof.Machine
end

section
/-! SUPPORT. The formats of chapter 12 on BUSD: the cells of a frame, the fields read back, and the format faults. -/

namespace Sys2Proof.Machine

/-! ### Cells (R7, R8, R11) -/

@[simp] theorem length_bitsOf {n : Nat} (w : BitVec n) : (bitsOf w).length = n := by
  simp [bitsOf]

theorem length_flatMap_bitsOf (bytes : List Byte) : (bytes.flatMap bitsOf).length = 8 * bytes.length := by
  rw [List.length_flatMap, List.map_congr_left (fun b _ => length_bitsOf b), List.map_const', List.sum_replicate_nat,
    Nat.mul_comm]

theorem toNat_arbitrationField (raw : RawFrame) :
    (arbitrationField raw).toNat = raw.code.toNat * 16 + raw.sender.val := by
  have hsender := raw.sender.isLt
  rw [arbitrationField, BitVec.toNat_append, BitVec.toNat_ofNat, Nat.mod_eq_of_lt (by omega),
    ← Nat.shiftLeft_add_eq_or_of_lt (by omega), Nat.shiftLeft_eq]

theorem length_payload_of_fixed {c : Content} {n : Nat} (h : fixedLength c.kind = some n) : c.payload.length = n := by
  cases c with
  | snapshot => exact nomatch h
  | _ => exact Option.some.inj h

/-- Settles O55: the parts of the body in their order, and the arbitration field as a number. -/
theorem bodyCellsFollowTheLayout : Obligations.BodyCellsFollowTheLayout := by
  intro f g
  have hfield : (bitsOf (arbitrationField (rawOf f))).length = 10 := length_bitsOf _
  have hlength : (bitsOf (rawOf f).length).length = 8 := length_bitsOf _
  refine ⟨?_, rfl, ?_, ?_, ?_, fun n => length_payload_of_fixed⟩
  · simp only [bodyCells, List.length_cons, List.length_append, length_bitsOf, length_flatMap_bitsOf]
    rw [show (rawOf f).payload = f.content.payload from rfl]
    omega
  · show List.take 10 (bitsOf (arbitrationField (rawOf f)) ++ _ ++ _ ++ _) = _
    rw [List.append_assoc, List.append_assoc, List.take_left' hfield]
  · show List.take 8 (List.drop 10 (bitsOf (arbitrationField (rawOf f)) ++ _ ++ _ ++ _)) = _
    rw [List.append_assoc, List.append_assoc, List.drop_left' hfield, List.take_left' hlength]
    rfl
  · rw [BitVec.lt_def, BitVec.lt_def, toNat_arbitrationField, toNat_arbitrationField, ← BitVec.toNat_inj, Fin.lt_def]
    have hf := f.sender.isLt
    have hg := g.sender.isLt
    show (codeOf f.content.kind).toNat * 16 + f.sender.val < (codeOf g.content.kind).toNat * 16 + g.sender.val ↔ _
    omega

/-! ### Fields read back -/

@[simp] theorem wordOf_bytes (w : Word16) : wordOf (hiByte w) (loByte w) = w := by
  rw [wordOf, hiByte, loByte]
  exact (BitVec.extractLsb'_append_extractLsb'_eq_extractLsb' (by omega)).trans (by simp)

@[simp] theorem stationOf_stationByte (i : StationId) : stationOf (stationByte i) = some i := by
  have hi : (stationByte i).toNat = i.val := by
    rw [stationByte, BitVec.toNat_ofNat, Nat.mod_eq_of_lt (by omega)]
  simp [stationOf, hi]

@[simp] theorem lockOf_lockByte (l : LockId) : lockOf (lockByte l) = some l := by
  have hl : (lockByte l).toNat = l.val := by
    rw [lockByte, BitVec.toNat_ofNat, Nat.mod_eq_of_lt (by omega)]
  simp [lockOf, hl]

@[simp] theorem modeOf_modeByte (m : Mode) (try_ : Bool) : modeOf (modeByte m try_) = some (m, try_) := by
  cases m <;> cases try_ <;> rfl

@[simp] theorem lockModeOf_lockModeByte (m : LockMode) : lockModeOf (lockModeByte m) = some m := by
  cases m <;> rfl

@[simp] theorem statusOf_statusByte (s : MemberStatus) : statusOf (statusByte s) = some s := by
  cases s <;> rfl

@[simp] theorem waiterOf_waiterByte (w : Waiter) : waiterOf (waiterByte w) = some w := by
  have hread : ∀ i : StationId, waiterOf (waiterByte ⟨i, .shared⟩) = some ⟨i, .shared⟩ ∧
      waiterOf (waiterByte ⟨i, .exclusive⟩) = some ⟨i, .exclusive⟩ := by decide
  obtain ⟨i, m⟩ := w
  cases m with
  | shared => exact (hread i).1
  | exclusive => exact (hread i).2

theorem parseMembers_memberBytes (ms : List MemberEntry) :
    parseMembers ms.length (ms.flatMap memberBytes) = some ms := by
  induction ms with
  | nil => rfl
  | cons m rest ih =>
    rw [List.flatMap_cons, List.length_cons]
    show parseMembers (rest.length + 1) (statusByte m.status :: hiByte m.joinEpoch :: loByte m.joinEpoch ::
      rest.flatMap memberBytes) = _
    simp only [parseMembers, statusOf_statusByte, ih, wordOf_bytes]

theorem parseWaiters_waiterBytes (ws : List Waiter) : parseWaiters (ws.map waiterByte) = some ws := by
  induction ws with
  | nil => rfl
  | cons w rest ih => simp only [List.map_cons, parseWaiters, waiterOf_waiterByte, ih]

theorem parseEntry_entryBytes {e : LockEntry} (h : e.waiters.length ≤ 15) (rest : List Byte) :
    parseEntry (entryBytes e ++ rest) = some (e, rest) := by
  have hcount : (BitVec.ofNat 8 e.waiters.length).toNat = e.waiters.length := by
    rw [BitVec.toNat_ofNat, Nat.mod_eq_of_lt (by omega)]
  have hlength : (e.waiters.map waiterByte).length = e.waiters.length := List.length_map _
  show parseEntry (lockModeByte e.mode :: hiByte e.holders :: loByte e.holders :: hiByte e.grants ::
    loByte e.grants :: BitVec.ofNat 8 e.waiters.length :: (e.waiters.map waiterByte ++ rest)) = _
  rw [parseEntry, hcount, if_neg (by rw [List.length_append, hlength]; omega), List.take_left' hlength,
    List.drop_left' hlength]
  simp only [lockModeOf_lockModeByte, parseWaiters_waiterBytes, wordOf_bytes]

theorem membersOf_toList (records : Vector MemberEntry 16) : membersOf records.toList = some records := by
  rw [membersOf, dif_pos (Vector.length_toList ..)]
  exact congrArg some (Vector.toArray_inj.mp Array.toArray_toList)

theorem parseSegment_bytes {seg : Segment}
    (h : ∀ pair first second, seg = .locks pair first second → first.waiters.length ≤ 15 ∧ second.waiters.length ≤ 15) :
    parseSegment (BitVec.ofNat 8 seg.index) seg.bytes = some seg := by
  cases seg with
  | members records =>
    have hparsed : parseMembers 16 (records.toList.flatMap memberBytes) = some records.toList := by
      have := parseMembers_memberBytes records.toList
      rwa [Vector.length_toList] at this
    show ((parseMembers 16 (records.toList.flatMap memberBytes)).bind membersOf).map Segment.members = _
    rw [hparsed, Option.bind_some, membersOf_toList]
    rfl
  | locks pair first second =>
    obtain ⟨hfirst, hsecond⟩ := h pair first second rfl
    have hindex : (BitVec.ofNat 8 (pair.val + 1)).toNat = pair.val + 1 := by
      rw [BitVec.toNat_ofNat, Nat.mod_eq_of_lt (by omega)]
    have hne : BitVec.ofNat 8 (pair.val + 1) ≠ 0 := fun h0 => by
      rw [h0] at hindex
      simp at hindex
    have hlt : (BitVec.ofNat 8 (pair.val + 1)).toNat - 1 < 32 := by omega
    have hpair : (⟨(BitVec.ofNat 8 (pair.val + 1)).toNat - 1, hlt⟩ : Fin 32) = pair := Fin.ext (by simp [hindex])
    have hrest := parseEntry_entryBytes hsecond []
    rw [List.append_nil] at hrest
    show parseSegment (BitVec.ofNat 8 (pair.val + 1)) (entryBytes first ++ entryBytes second) = _
    rw [parseSegment, if_neg hne, dif_pos hlt, parseEntry_entryBytes hfirst]
    simp only [hrest, hpair]

/-- Every payload that a station can send is read back as it was sent (Tables 12-3 to 12-7). -/
theorem parseContent_payload {c : Content}
    (h : ∀ target e j pair first second, c = .snapshot target e j (.locks pair first second) →
      first.waiters.length ≤ 15 ∧ second.waiters.length ≤ 15) : parseContent c.kind c.payload = some c := by
  cases c with
  | snapshot target e j seg =>
    have hseg : parseSegment (BitVec.ofNat 8 seg.index) seg.bytes = some seg :=
      parseSegment_bytes fun pair first second hs => h target e j pair first second (by rw [hs])
    show parseSnapshot (stationByte target :: hiByte e :: loByte e :: hiByte j :: loByte j ::
      BitVec.ofNat 8 seg.index :: seg.bytes) = _
    simp only [parseSnapshot, stationOf_stationByte, hseg, wordOf_bytes]
  | _ => simp [Content.kind, Content.payload, parseContent, bytesOf]

/-! ### Kind codes and lengths (R8, R16) -/

theorem kindOf_codeOf (k : Kind) : kindOf (codeOf k) = some k := by cases k <;> rfl

theorem kindOf_eq_some_iff {code : BitVec 6} {k : Kind} : kindOf code = some k ↔ code = codeOf k := by
  refine ⟨fun h => ?_, fun h => h ▸ kindOf_codeOf k⟩
  exact (eq_of_beq (List.find?_some (p := fun k => codeOf k == code) h)).symm

theorem mem_allKinds (k : Kind) : k ∈ allKinds := by cases k <;> simp [allKinds]

theorem kindOf_eq_none_iff {code : BitVec 6} : kindOf code = none ↔ ∀ k, code ≠ codeOf k := by
  rw [Option.eq_none_iff_forall_ne_some]
  exact forall_congr' fun k => not_congr kindOf_eq_some_iff

theorem lengthFault_of_fixed {k : Kind} {n : Nat} (h : fixedLength k = some n) (length : Byte) :
    lengthFault k length = false ↔ length.toNat = n := by
  have hn : n ≤ 56 := by cases k <;> simp [fixedLength] at h <;> omega
  simp only [lengthFault, h, Config.maxLength]
  simp
  omega

theorem lengthFault_snapshot (length : Byte) :
    lengthFault .snapshot length = false ↔ 6 ≤ length.toNat ∧ length.toNat ≤ 56 := by
  simp [lengthFault, fixedLength, Config.maxLength]
  omega

/-- A frame whose slots can be placed: a listed kind, a LENGTH of it, and as many payload bytes (R14, R16). -/
theorem placeable_iff {raw : RawFrame} :
    placeable raw = true ↔
      ∃ k, raw.code = codeOf k ∧ lengthFault k raw.length = false ∧ raw.payload.length = raw.length.toNat := by
  unfold placeable
  cases hk : kindOf raw.code with
  | none =>
    simp only [Bool.false_eq_true, false_iff, not_exists]
    exact fun k h => kindOf_eq_none_iff.mp hk k h.1
  | some k =>
    have hcode := kindOf_eq_some_iff.mp hk
    simp only [Bool.and_eq_true, Bool.not_eq_true', beq_iff_eq]
    refine ⟨fun h => ⟨k, hcode, h⟩, fun ⟨k', hcode', h⟩ => ?_⟩
    have hsame : k = k' := by
      rw [hcode', kindOf_codeOf, Option.some.injEq] at hk
      exact hk.symm
    rw [hsame]
    exact h

/-- Table 1-2, row by row: the kind codes, each with its LENGTH, and SNAPSHOT with its range. -/
def LengthFits (code : BitVec 6) (length : Byte) : Prop :=
  (code, length) ∈ ([(0x02, 0), (0x04, 0), (0x06, 3), (0x08, 2), (0x0A, 2), (0x21, 4), (0x22, 3), (0x23, 3), (0x31, 2)] :
    List (BitVec 6 × Byte)) ∨ (code = 0x12 ∧ 6 ≤ length.toNat ∧ length.toNat ≤ 56)

theorem lengthFits_codeOf (k : Kind) (length : Byte) : LengthFits (codeOf k) length ↔ lengthFault k length = false := by
  cases k with
  | snapshot =>
    rw [lengthFault_snapshot]
    simp [LengthFits, codeOf]
  | _ =>
    rw [lengthFault_of_fixed rfl]
    simp [LengthFits, codeOf, ← BitVec.toNat_inj]

theorem mem_codes_iff {code : BitVec 6} :
    code ∈ ([0x02, 0x04, 0x06, 0x08, 0x0A, 0x12, 0x21, 0x22, 0x23, 0x31] : List (BitVec 6)) ↔ ∃ k, code = codeOf k := by
  show code ∈ allKinds.map codeOf ↔ _
  rw [List.mem_map]
  exact ⟨fun ⟨k, _, h⟩ => ⟨k, h.symm⟩, fun ⟨k, h⟩ => ⟨k, mem_allKinds k, h.symm⟩⟩

theorem LengthFits.listed {code : BitVec 6} {length : Byte} (h : LengthFits code length) : ∃ k, code = codeOf k := by
  rw [← mem_codes_iff]
  rcases h with h | ⟨rfl, -⟩
  · have := List.mem_map_of_mem (f := Prod.fst) h
    simp only [List.map_cons, List.map_nil, List.mem_cons, List.not_mem_nil, or_false] at this ⊢
    tauto
  · decide

theorem lengthFits_iff {code : BitVec 6} {length : Byte} :
    LengthFits code length ↔ ∃ k, code = codeOf k ∧ lengthFault k length = false := by
  refine ⟨fun h => ?_, ?_⟩
  · obtain ⟨k, rfl⟩ := h.listed
    exact ⟨k, rfl, (lengthFits_codeOf k length).mp h⟩
  · rintro ⟨k, rfl, h⟩
    exact (lengthFits_codeOf k length).mpr h

theorem unknownKind_wf_iff {code : BitVec 6} : FlagCause.wf (.unknownKind code) = true ↔ ∀ k, code ≠ codeOf k := by
  rw [← kindOf_eq_none_iff]
  cases h : kindOf code <;> simp [FlagCause.wf, flagAssembly, h]

theorem lengthFault_wf_iff {code : BitVec 6} {sender : StationId} {length : Byte} :
    FlagCause.wf (.lengthFault code sender length) = true ↔ (∃ k, code = codeOf k) ∧ ¬ LengthFits code length := by
  cases h : kindOf code with
  | none =>
    have hnone : ¬ ∃ k, code = codeOf k := fun ⟨k, hk⟩ => kindOf_eq_none_iff.mp h k hk
    simp [FlagCause.wf, flagAssembly, h, hnone]
  | some k =>
    obtain rfl := kindOf_eq_some_iff.mp h
    rw [lengthFits_codeOf, Bool.not_eq_false]
    cases hfault : lengthFault k length <;> simp [FlagCause.wf, flagAssembly, h, hfault]

/-! ### Frames as they are sent -/

theorem length_entryBytes (e : LockEntry) : (entryBytes e).length = 6 + e.waiters.length := by
  simp [entryBytes, bytesOf]
  omega

theorem length_memberBytes (ms : List MemberEntry) : (ms.flatMap memberBytes).length = 3 * ms.length := by
  induction ms with
  | nil => rfl
  | cons m rest ih =>
    rw [List.flatMap_cons, List.length_append, ih, List.length_cons]
    show 3 + 3 * rest.length = _
    omega

theorem length_segmentBytes_le {seg : Segment}
    (h : ∀ pair first second, seg = .locks pair first second → first.waiters.length ≤ 15 ∧ second.waiters.length ≤ 15) :
    seg.bytes.length ≤ 50 := by
  cases seg with
  | members records =>
    show (records.toList.flatMap memberBytes).length ≤ 50
    rw [length_memberBytes, Vector.length_toList]
    decide
  | locks pair first second =>
    obtain ⟨hfirst, hsecond⟩ := h pair first second rfl
    show (entryBytes first ++ entryBytes second).length ≤ 50
    rw [List.length_append, length_entryBytes, length_entryBytes]
    omega

/-- A frame that a station can send fits its kind's LENGTH. -/
theorem placeable_rawOf {f : Frame}
    (h : ∀ target e j pair first second, f.content = .snapshot target e j (.locks pair first second) →
      first.waiters.length ≤ 15 ∧ second.waiters.length ≤ 15) : placeable (rawOf f) = true := by
  have hlength {n : Nat} (hn : f.content.payload.length = n) (hle : n ≤ 56) : (rawOf f).length.toNat = n := by
    show (BitVec.ofNat 8 f.content.payload.length).toNat = n
    rw [hn, BitVec.toNat_ofNat, Nat.mod_eq_of_lt (by omega)]
  refine placeable_iff.mpr ⟨f.content.kind, rfl, ?_⟩
  cases hfixed : fixedLength f.content.kind with
  | some n =>
    have hn := length_payload_of_fixed hfixed
    have hle : n ≤ 56 := by
      cases hk : f.content.kind <;> simp [hk, fixedLength] at hfixed <;> omega
    exact ⟨(lengthFault_of_fixed hfixed _).mpr (hlength hn hle), hn.trans (hlength hn hle).symm⟩
  | none =>
    obtain ⟨target, e, j, seg, hcontent⟩ : ∃ target e j seg, f.content = .snapshot target e j seg := by
      cases hc : f.content with
      | snapshot target e j seg => exact ⟨target, e, j, seg, rfl⟩
      | _ => simp [hc, Content.kind, fixedLength] at hfixed
    have hseg : seg.bytes.length ≤ 50 :=
      length_segmentBytes_le fun pair first second hs => h target e j pair first second (by rw [hcontent, hs])
    have hn : f.content.payload.length = 6 + seg.bytes.length := by
      rw [hcontent]
      simp [Content.payload, bytesOf]
      omega
    have hbyte := hlength hn (by omega)
    rw [show f.content.kind = .snapshot by rw [hcontent]; rfl]
    exact ⟨(lengthFault_snapshot _).mpr (by omega), hn.trans hbyte.symm⟩

theorem contentOf_rawOf {f : Frame}
    (h : ∀ target e j pair first second, f.content = .snapshot target e j (.locks pair first second) →
      first.waiters.length ≤ 15 ∧ second.waiters.length ≤ 15) : contentOf (rawOf f) = some f.content := by
  show (kindOf (codeOf f.content.kind)).bind (parseContent · f.content.payload) = _
  rw [kindOf_codeOf]
  exact parseContent_payload h

end Sys2Proof.Machine
end

section
/-! SUPPORT. The format faults of R15, field by field. -/

namespace Sys2Proof.Machine

/-! ### Single fields -/

theorem stationOf_eq_none_iff {b : Byte} : stationOf b = none ↔ 16 ≤ b.toNat := by
  simp [stationOf]

theorem lockOf_eq_none_iff {b : Byte} : lockOf b = none ↔ 64 ≤ b.toNat := by
  simp [lockOf]

theorem modeOf_eq_none_iff {b : Byte} : modeOf b = none ↔ b ∉ ([0x00, 0x01, 0x80, 0x81] : List Byte) := by
  unfold modeOf
  repeat' split
  all_goals simp_all

theorem byte_lt_three_iff {b : Byte} : b.toNat < 3 ↔ b = 0 ∨ b = 1 ∨ b = 2 := by
  simp only [← BitVec.toNat_inj]
  simp
  omega

theorem statusOf_eq_none_iff {b : Byte} : statusOf b = none ↔ 3 ≤ b.toNat := by
  have hcases : statusOf b = none ↔ ¬ (b = 0 ∨ b = 1 ∨ b = 2) := by
    unfold statusOf
    repeat' split
    all_goals simp_all
  rw [hcases, ← byte_lt_three_iff]
  omega

theorem lockModeOf_eq_none_iff {b : Byte} : lockModeOf b = none ↔ 3 ≤ b.toNat := by
  have hcases : lockModeOf b = none ↔ ¬ (b = 0 ∨ b = 1 ∨ b = 2) := by
    unfold lockModeOf
    repeat' split
    all_goals simp_all
  rw [hcases, ← byte_lt_three_iff]
  omega

theorem waiterOf_eq_none_iff {b : Byte} : waiterOf b = none ↔ 32 ≤ b.toNat := by
  unfold waiterOf
  split
  next h =>
    rw [Option.map_eq_none_iff, stationOf_eq_none_iff]
    omega
  next h =>
    split
    next h' =>
      have hsub : (b - 0x10).toNat = b.toNat - 16 := BitVec.toNat_sub_of_le (by rw [BitVec.le_def]; simpa using h)
      rw [Option.map_eq_none_iff, stationOf_eq_none_iff, hsub]
      omega
    next h' => exact ⟨fun _ => not_lt.mp h', fun _ => rfl⟩

/-! ### Membership records -/

theorem parseMembers_eq_none_iff {n : Nat} {bytes : List Byte} :
    parseMembers n bytes = none ↔
      bytes.length ≠ 3 * n ∨ ∃ i < n, ∃ status, bytes[3 * i]? = some status ∧ 3 ≤ status.toNat := by
  induction n generalizing bytes with
  | zero => cases bytes <;> simp [parseMembers]
  | succ n ih =>
    match bytes with
    | [] | [_] | [_, _] => exact iff_of_true rfl (.inl (by simp only [List.length_cons, List.length_nil]; omega))
    | s :: hi :: lo :: rest =>
      have hsplit : parseMembers (n + 1) (s :: hi :: lo :: rest) = none ↔
          statusOf s = none ∨ parseMembers n rest = none := by
        cases hs : statusOf s <;> cases hrest : parseMembers n rest <;> simp [parseMembers, hs, hrest]
      have hplaces : (∃ i < n + 1, ∃ status, (s :: hi :: lo :: rest)[3 * i]? = some status ∧ 3 ≤ status.toNat) ↔
          3 ≤ s.toNat ∨ ∃ i < n, ∃ status, rest[3 * i]? = some status ∧ 3 ≤ status.toNat := by
        rw [Nat.exists_lt_succ_left]
        simp [Nat.mul_add]
      rw [hsplit, ih, hplaces, statusOf_eq_none_iff]
      simp only [List.length_cons]
      rw [show rest.length + 1 + 1 + 1 ≠ 3 * (n + 1) ↔ rest.length ≠ 3 * n by omega]
      exact or_left_comm

theorem length_of_parseMembers {n : Nat} {bytes : List Byte} {ms : List MemberEntry}
    (h : parseMembers n bytes = some ms) : ms.length = n := by
  induction n generalizing bytes ms with
  | zero =>
    cases bytes with
    | nil => exact (Option.some.inj h) ▸ rfl
    | cons b rest => simp [parseMembers] at h
  | succ n ih =>
    match bytes with
    | [] | [_] | [_, _] => simp [parseMembers] at h
    | s :: hi :: lo :: rest =>
      cases hs : statusOf s <;> cases hrest : parseMembers n rest <;> simp [parseMembers, hs, hrest] at h
      rw [← h, List.length_cons, ih hrest]

/-! ### Lock entries -/

theorem parseWaiters_eq_none_iff {bytes : List Byte} : parseWaiters bytes = none ↔ ∃ w ∈ bytes, 32 ≤ w.toNat := by
  induction bytes with
  | nil => simp [parseWaiters]
  | cons b rest ih =>
    rw [List.exists_mem_cons_iff, ← ih, ← waiterOf_eq_none_iff]
    cases hb : waiterOf b <;> cases hrest : parseWaiters rest <;> simp [parseWaiters, hb, hrest]

/-- The bytes of one lock entry (Tables 12-6, 12-7). -/
def IsEntry (bytes : List Byte) : Prop :=
  ∃ mode h1 h0 g1 g0 count waiters, bytes = mode :: h1 :: h0 :: g1 :: g0 :: count :: waiters ∧ mode.toNat ≤ 2 ∧
    count.toNat ≤ 15 ∧ waiters.length = count.toNat ∧ ∀ w ∈ waiters, w.toNat < 32

theorem parseEntry_cons (m h1 h0 g1 g0 count : Byte) (tail : List Byte) :
    parseEntry (m :: h1 :: h0 :: g1 :: g0 :: count :: tail) =
      if 15 < count.toNat ∨ tail.length < count.toNat then none
      else
        (lockModeOf m).bind fun mode => (parseWaiters (tail.take count.toNat)).map fun ws =>
          ({ mode, holders := wordOf h1 h0, waiters := ws, grants := wordOf g1 g0 }, tail.drop count.toNat) := by
  rw [parseEntry]
  split
  · rfl
  · cases lockModeOf m <;> cases parseWaiters (tail.take count.toNat) <;> rfl

theorem parseEntry_eq_some_iff {bytes rest : List Byte} :
    (∃ e, parseEntry bytes = some (e, rest)) ↔ ∃ first, bytes = first ++ rest ∧ IsEntry first := by
  constructor
  · rintro ⟨e, h⟩
    match bytes with
    | [] | [_] | [_, _] | [_, _, _] | [_, _, _, _] | [_, _, _, _, _] => exact nomatch h
    | m :: h1 :: h0 :: g1 :: g0 :: count :: tail =>
      rw [parseEntry_cons] at h
      split at h
      next => exact nomatch h
      next hfits =>
        obtain ⟨hcount, hlong⟩ := not_or.mp hfits
        cases hm : lockModeOf m with
        | none => simp [hm] at h
        | some mode =>
          cases hw : parseWaiters (tail.take count.toNat) with
          | none => simp [hm, hw] at h
          | some ws =>
            simp only [hm, hw, Option.bind_some, Option.map_some, Option.some.injEq, Prod.mk.injEq] at h
            refine ⟨m :: h1 :: h0 :: g1 :: g0 :: count :: tail.take count.toNat, ?_, m, h1, h0, g1, g0, count,
              tail.take count.toNat, rfl, ?_, not_lt.mp hcount, ?_, fun w hmem => ?_⟩
            · rw [← h.2]
              simp
            · by_contra hbad
              exact nomatch hm.symm.trans (lockModeOf_eq_none_iff.mpr (by omega))
            · rw [List.length_take]
              omega
            · by_contra hbad
              exact nomatch hw.symm.trans (parseWaiters_eq_none_iff.mpr ⟨w, hmem, not_lt.mp hbad⟩)
  · rintro ⟨first, rfl, m, h1, h0, g1, g0, count, waiters, rfl, hmode, hcount, hlength, hwaiters⟩
    obtain ⟨mode, hm⟩ := Option.ne_none_iff_exists'.mp fun h : lockModeOf m = none =>
      absurd (lockModeOf_eq_none_iff.mp h) (by omega)
    obtain ⟨ws, hw⟩ := Option.ne_none_iff_exists'.mp fun h : parseWaiters waiters = none => by
      obtain ⟨w, hmem, hbad⟩ := parseWaiters_eq_none_iff.mp h
      exact absurd (hwaiters w hmem) (not_lt.mpr hbad)
    simp only [List.cons_append]
    rw [parseEntry_cons, if_neg (by rw [List.length_append]; omega), List.take_left' hlength, List.drop_left' hlength]
    rw [hm, hw]
    exact ⟨_, rfl⟩

/-! ### Segments -/

theorem parseSegment_zero {bytes : List Byte} :
    parseSegment 0 bytes = none ↔
      bytes.length ≠ 48 ∨ ∃ i < 16, ∃ status, bytes[3 * i]? = some status ∧ 3 ≤ status.toNat := by
  have hmembers : (parseMembers 16 bytes).bind membersOf = none ↔ parseMembers 16 bytes = none := by
    cases h : parseMembers 16 bytes with
    | none => simp
    | some ms => simp [membersOf, length_of_parseMembers h]
  rw [parseSegment, if_pos rfl, Option.map_eq_none_iff, hmembers, parseMembers_eq_none_iff]

theorem parseSegment_locks {index : Byte} {bytes : List Byte} (h : 1 ≤ index.toNat ∧ index.toNat ≤ 32) :
    parseSegment index bytes = none ↔ ¬ ∃ first second, bytes = first ++ second ∧ IsEntry first ∧ IsEntry second := by
  have hne : index ≠ 0 := by
    rintro rfl
    exact absurd h.1 (by decide)
  have hlt : index.toNat - 1 < 32 := by omega
  have hentries : (∃ first second, bytes = first ++ second ∧ IsEntry first ∧ IsEntry second) ↔
      ∃ a rest, parseEntry bytes = some (a, rest) ∧ ∃ b, parseEntry rest = some (b, []) := by
    constructor
    · rintro ⟨first, second, hbytes, hfirst, hsecond⟩
      obtain ⟨a, ha⟩ := parseEntry_eq_some_iff.mpr ⟨first, hbytes, hfirst⟩
      exact ⟨a, second, ha, parseEntry_eq_some_iff.mpr ⟨second, (List.append_nil _).symm, hsecond⟩⟩
    · rintro ⟨a, rest, ha, hb⟩
      obtain ⟨first, hbytes, hfirst⟩ := parseEntry_eq_some_iff.mp ⟨a, ha⟩
      obtain ⟨second, hrest, hsecond⟩ := parseEntry_eq_some_iff.mp hb
      rw [List.append_nil] at hrest
      exact ⟨first, rest, hbytes, hfirst, hrest ▸ hsecond⟩
  rw [hentries, parseSegment, if_neg hne, dif_pos hlt]
  cases ha : parseEntry bytes with
  | none => simp
  | some p =>
    obtain ⟨a, rest⟩ := p
    cases hb : parseEntry rest with
    | none => simp [hb]
    | some q =>
      obtain ⟨b, rest'⟩ := q
      cases rest' with
      | nil => simp [hb]
      | cons => simp [hb]

theorem parseSegment_above {index : Byte} (h : 33 ≤ index.toNat) (bytes : List Byte) :
    parseSegment index bytes = none := by
  have hne : index ≠ 0 := by
    rintro rfl
    exact absurd h (by decide)
  rw [parseSegment, if_neg hne, dif_neg (by omega)]

/-! ### The fields of a frame, by its kind -/

/-- A field fault of R15 in a payload that has a length of its kind. -/
def FieldFault (code : BitVec 6) (length : Byte) (payload : List Byte) : Prop :=
  (code ∈ ([0x21, 0x22, 0x23] : List (BitVec 6)) ∧ ∃ lock, payload[2]? = some lock ∧ 64 ≤ lock.toNat) ∨
  (code = 0x21 ∧ ∃ mode, payload[3]? = some mode ∧ mode ∉ ([0x00, 0x01, 0x80, 0x81] : List Byte)) ∨
  (code = 0x06 ∧ ∃ target, payload[2]? = some target ∧ 16 ≤ target.toNat) ∨
  (code = 0x12 ∧ ∃ target e1 e0 j1 j0 index content, payload = target :: e1 :: e0 :: j1 :: j0 :: index :: content ∧
    (16 ≤ target.toNat ∨ 33 ≤ index.toNat ∨
     (index = 0 ∧ (length ≠ 54 ∨ ∃ i < 16, ∃ status, content[3 * i]? = some status ∧ 3 ≤ status.toNat)) ∨
     (1 ≤ index.toNat ∧ index.toNat ≤ 32 ∧
      ¬ ∃ first second, content = first ++ second ∧ IsEntry first ∧ IsEntry second)))

theorem parseSegment_eq_none_iff {index : Byte} {bytes : List Byte} :
    parseSegment index bytes = none ↔
      33 ≤ index.toNat ∨
      (index = 0 ∧ (bytes.length ≠ 48 ∨ ∃ i < 16, ∃ status, bytes[3 * i]? = some status ∧ 3 ≤ status.toNat)) ∨
      (1 ≤ index.toNat ∧ index.toNat ≤ 32 ∧ ¬ ∃ first second, bytes = first ++ second ∧ IsEntry first ∧ IsEntry second) := by
  by_cases hzero : index = 0
  · subst hzero
    rw [parseSegment_zero]
    simp
  · have hpos : 1 ≤ index.toNat := Nat.one_le_iff_ne_zero.mpr fun h => hzero (BitVec.eq_of_toNat_eq h)
    by_cases habove : 33 ≤ index.toNat
    · exact iff_of_true (parseSegment_above habove bytes) (.inl habove)
    · rw [parseSegment_locks ⟨hpos, by omega⟩]
      refine ⟨fun h => .inr (.inr ⟨hpos, by omega, h⟩), ?_⟩
      rintro (h | ⟨h, -⟩ | ⟨-, -, h⟩)
      · exact absurd h habove
      · exact absurd h hzero
      · exact h

theorem parseSnapshot_eq_none_iff {length : Byte} {payload : List Byte} (hlength : payload.length = length.toNat)
    (hlong : 6 ≤ length.toNat) : parseSnapshot payload = none ↔ FieldFault (codeOf .snapshot) length payload := by
  match payload with
  | [] | [_] | [_, _] | [_, _, _] | [_, _, _, _] | [_, _, _, _, _] =>
    simp only [List.length_cons, List.length_nil] at hlength
    omega
  | t :: e1 :: e0 :: j1 :: j0 :: index :: rest =>
    have hsplit : parseSnapshot (t :: e1 :: e0 :: j1 :: j0 :: index :: rest) = none ↔
        stationOf t = none ∨ parseSegment index rest = none := by
      cases ht : stationOf t <;> cases hs : parseSegment index rest <;> simp [parseSnapshot, ht, hs]
    have hrest : rest.length ≠ 48 ↔ length ≠ 54 := by
      rw [ne_eq, ne_eq, ← BitVec.toNat_inj, ← hlength]
      simp
    rw [hsplit, stationOf_eq_none_iff, parseSegment_eq_none_iff, hrest]
    simp [FieldFault, codeOf]

/-- The parser of a payload refuses what R15 names, and nothing else. -/
theorem parseContent_eq_none_iff {k : Kind} {length : Byte} {payload : List Byte}
    (hfault : lengthFault k length = false) (hlength : payload.length = length.toNat) :
    parseContent k payload = none ↔ FieldFault (codeOf k) length payload := by
  have hfixed {n : Nat} (h : fixedLength k = some n) : payload.length = n :=
    hlength.trans ((lengthFault_of_fixed h length).mp hfault)
  cases k with
  | snapshot => exact parseSnapshot_eq_none_iff hlength ((lengthFault_snapshot length).mp hfault).1
  | genesis | join =>
    obtain rfl := List.length_eq_zero_iff.mp (hfixed rfl)
    simp [parseContent, FieldFault, codeOf]
  | leave | ready | presence =>
    obtain ⟨a, b, rfl⟩ := List.length_eq_two.mp (hfixed rfl)
    simp [parseContent, FieldFault, codeOf]
  | evict =>
    obtain ⟨a, b, t, rfl⟩ := List.length_eq_three.mp (hfixed rfl)
    simp [parseContent, FieldFault, codeOf, stationOf_eq_none_iff]
  | release | cancel =>
    obtain ⟨a, b, l, rfl⟩ := List.length_eq_three.mp (hfixed rfl)
    simp [parseContent, FieldFault, codeOf, lockOf_eq_none_iff]
  | acquire =>
    obtain ⟨a, rest, rfl, hrest⟩ := List.length_eq_succ_iff.mp (hfixed rfl)
    obtain ⟨b, l, m, rfl⟩ := List.length_eq_three.mp hrest
    have hsplit : parseContent .acquire [a, b, l, m] = none ↔ lockOf l = none ∨ modeOf m = none := by
      cases hl : lockOf l <;> cases hm : modeOf m <;> simp [parseContent, hl, hm]
    rw [hsplit, lockOf_eq_none_iff, modeOf_eq_none_iff]
    simp [FieldFault, codeOf]

/-- Settles O56: every field is read back; the placed frames by Table 1-2; the faults field by field. -/
theorem framesAreReadAsSent : Obligations.FramesAreReadAsSent := by
  refine ⟨fun f h => ⟨placeable_rawOf h, contentOf_rawOf h, fun receiver hne => ?_⟩, ⟨fun raw => ?_, fun code => ?_,
    fun code sender length => ?_⟩, fun raw receiver hwf => ?_⟩
  · simp [formatFaultOf, contentOf_rawOf h, show (rawOf f).sender = f.sender from rfl, Ne.symm hne]
    rfl
  · show placeable raw = true ↔ LengthFits raw.code raw.length ∧ raw.payload.length = raw.length.toNat
    rw [placeable_iff, lengthFits_iff, ← exists_and_right]
    exact exists_congr fun k => and_assoc.symm
  · rw [mem_codes_iff, not_exists]
    exact unknownKind_wf_iff
  · rw [mem_codes_iff]
    exact lengthFault_wf_iff
  · obtain ⟨k, hcode, hfault, hlength⟩ := placeable_iff.mp hwf
    have hcontent : (contentOf raw).isNone = true ↔ FieldFault raw.code raw.length raw.payload := by
      rw [contentOf, hcode, kindOf_codeOf, Option.isNone_iff_eq_none]
      exact parseContent_eq_none_iff hfault hlength
    simp only [formatFaultOf, Bool.or_eq_true, bne_iff_ne, beq_iff_eq, hcontent]
    rw [or_assoc, or_comm (a := FieldFault _ _ _)]
    exact Iff.rfl

end Sys2Proof.Machine
end
